-- ==== Sys2Proof/Word.lean ====
section
/-! DEFINITION. The two word types of the machine (spec/00_scope.md R5, R6): 8-bit data and opcodes
(`XLEN`, `IOLEN`), 16-bit addresses, program counter and stack pointer (`ALEN`). All arithmetic is
unsigned and modular (R127); `BitVec` addition and subtraction are exactly the `+16`, `−16`, `+8`,
`−8` of R6. -/

namespace Sys2Proof

/-- R6: a *Byte*, an unsigned integer 0..255. -/
abbrev Byte := BitVec 8

/-- R6: a *Word*, an unsigned integer 0..65535. -/
abbrev Word := BitVec 16

end Sys2Proof
end

