-- ==== Sys2Proof/Config.lean ====
section
/-! DEFINITION. The configuration record of spec/00_scope.md R5: every constant the source leaves
without a number is a named field, and every definition that depends on one takes the record as an
argument, from the decoder and the meanings up to the step and the reset state, so that a claim can
quantify over it. The values this model runs with are `Sys2Proof.Machine.config`
(Sys2Proof/Machine/Parameters.lean). `XLEN`, `ALEN`, `IOLEN` and `NLINES`, which the source does fix, are
fields that carry the proof of their one value; the types `Byte`, `Word`, `BitVec 3` and `Fin 3` are of
those sizes (Sys2Proof/Laws/Config.lean).
The free values of the model are the bodiless constants `Config.ioDraw`, the answer of an I/O device, and
`Config.launchByte`, a byte of memory nothing wrote. -/

namespace Sys2Proof

/-- R111: the five operations of the Execution Unit. -/
inductive AluOp where
  | add
  | sub
  | and
  | or
  | xor
  deriving DecidableEq, Repr

/-- R111: the Execution Unit the Control Unit consumes. `alu op useCarry a f x` answers `(a', f')`;
`carry f` is the unit's own reading of its carry bit out of `F` (the `c(f)` of R111 point 4). -/
structure ExecutionUnit where
  alu : AluOp → Bool → Byte → Byte → Byte → Byte × Byte
  carry : Byte → Bool

/-- R26, `RESET_REGS` (OPEN in the spec, decision D11): the registers after reset. -/
structure ResetRegs where
  a : Byte
  b : Byte
  c : Byte
  d : Byte
  e : Byte
  h : Byte
  l : Byte
  f : Byte
  sp : Word
  deriving DecidableEq, Repr

/-- R5: the implementation parameters. -/
structure Config where
  /-- `XLEN`: the data width. -/
  xlen : Nat := 8
  /-- `ALEN`: the memory address width. -/
  alen : Nat := 16
  /-- `IOLEN`: the I/O port address width. -/
  iolen : Nat := 8
  /-- `NLINES`: the number of maskable interrupt lines. -/
  nlines : Nat := 3
  /-- `RST_STRIDE`: the spacing of the restart and interrupt vectors. -/
  rstStride : Word
  /-- `INT_VECTOR_BASE`: the vector of line 0 (decision D8). -/
  intVectorBase : Word
  /-- `TRAP_VECTOR` (decision D9). -/
  trapVector : Word
  /-- `HALT_SEED_ADDR`: the address that receives the halt opcode at initialisation (decision D10). -/
  haltSeedAddr : Word
  /-- `HALT_OPCODE`: the byte seeded there. -/
  haltOpcode : Byte
  /-- `RESET_PC` (decision D11). -/
  resetPc : Word
  /-- `RESET_IE` (OPEN, decision D11). -/
  resetIe : Bool
  /-- `RESET_REGS` (OPEN, decision D11). -/
  resetRegs : ResetRegs
  /-- `ORA_BASE`: the first opcode of the OR register block (decision D4). -/
  oraBase : Byte
  /-- `SUB_IS_SUBTRACT`: the subtract-family handlers subtract (decision D6). -/
  subIsSubtract : Bool
  /-- `EU`: the Execution Unit (decision D17). -/
  eu : ExecutionUnit
  /-- R5: the source fixes 8-bit data. -/
  xlen_eq : xlen = 8 := by rfl
  /-- R5: the source fixes 16-bit memory addresses. -/
  alen_eq : alen = 16 := by rfl
  /-- R5: the source fixes 8-bit port addresses. -/
  iolen_eq : iolen = 8 := by rfl
  /-- R5: the source fixes 3 lines. -/
  nlines_eq : nlines = 3 := by rfl

/-- R31 and U5: a byte of memory that neither the launch image, the reset nor the program wrote is any
value. This is that value, a FREE VALUE: a constant with no body, applied to the address (DESIGN CHOICE
of the form, notes/assumptions/1.md). -/
opaque Config.launchByte : Nat → Byte

/-- R32 and U4: what a device answers to an `IORead` is any value, a draw per `IN`. This is that
draw, a FREE VALUE: a constant with no body, applied to the number of earlier draws and to the port
(DESIGN CHOICE, notes/assumptions/3.md). It is used only when the answers the host placed in
`State.ioAnswers` have run out. -/
opaque Config.ioDraw : Nat → Byte → Byte

end Sys2Proof
end

