-- ==== Sys2Proof/Machine/Bytes.lean ====
section
/-! DEFINITION. The byte-order helpers of spec/00_scope.md R6 and spec/20_memory.md R33: the two
halves of a Word and the Word made of two Bytes. -/

namespace Sys2Proof.Machine

/-- R6: `hi(w) = w[15:8]`. -/
def hiByte (w : Word) : Byte := w.extractLsb' 8 8

/-- R6: `lo(w) = w[7:0]`. -/
def loByte (w : Word) : Byte := w.extractLsb' 0 8

/-- R6: `{h, l}`, the Word `h × 256 + l`. -/
def joinBytes (h l : Byte) : Word := h ++ l

end Sys2Proof.Machine
end

