-- ==== Sys2Proof/Machine/Flags.lean ====
section
/-! DEFINITION. The Execution Unit (spec/42_alu_dispatch.md). `aluResult` is the result every unit
must give (R111 point 4); `meetsContract` is the contract; `referenceEU` is the reference unit
of R112, whose flags are the spec's own choice (decision D17, notes/assumptions/9.md). -/

namespace Sys2Proof.Machine

/-- A carry or borrow bit as a number. -/
def bit (b : Bool) : Nat := if b then 1 else 0

/-- R111 point 4: the 8-bit result of an operation, `cin` being `use_carry AND c(f)`. -/
def aluResult (op : AluOp) (cin : Bool) (a x : Byte) : Byte :=
  match op with
  | .add => BitVec.ofNat 8 (a.toNat + x.toNat + bit cin)
  | .sub => a - x - BitVec.ofNat 8 (bit cin)
  | .and => a &&& x
  | .or => a ||| x
  | .xor => a ^^^ x

/-- R111: the contract of an Execution Unit. Totality, determinism and "no other state" (point 1) and
"first operand and destination are the accumulator" (point 2) are the shape of `ExecutionUnit.alu` and
of its one caller; what remains to be said is the result (point 4). Nothing is said of the flags
(point 5). -/
def meetsContract (eu : ExecutionUnit) : Prop :=
  ∀ (op : AluOp) (useCarry : Bool) (a f x : Byte),
    (eu.alu op useCarry a f x).1 = aluResult op (useCarry && eu.carry f) a x

/-- R112: `c(f) = f[0]`. -/
def refCarry (f : Byte) : Bool := f.getLsbD 0

/-- R112: `P`, set when the number of 1 bits of the result is even. -/
def evenParity (r : Byte) : Bool :=
  ((List.range 8).filter fun i => r.getLsbD i).length % 2 == 0

/-- R112: `CY` of an operation. After AND, OR and XOR it is 0. -/
def refCY (op : AluOp) (cin : Bool) (a x : Byte) : Bool :=
  match op with
  | .add => decide (255 < a.toNat + x.toNat + bit cin)
  | .sub => decide (a.toNat < x.toNat + bit cin)
  | .and | .or | .xor => false

/-- R112: `AC` of an operation; for the subtraction it is the carry out of bit 3 of
`a + NOT x + (1 − cin)`. After AND it is 1, after OR and XOR it is 0. -/
def refAC (op : AluOp) (cin : Bool) (a x : Byte) : Bool :=
  match op with
  | .add => decide (15 < a.toNat % 16 + x.toNat % 16 + bit cin)
  | .sub => decide (15 < a.toNat % 16 + (255 - x.toNat) % 16 + (1 - bit cin))
  | .and => true
  | .or | .xor => false

/-- R112: `f' <- S*128 + Z*64 + AC*16 + P*4 + CY`; bits 5, 3 and 1 are written as 0. -/
def packFlags (sign zero ac parity cy : Bool) : Byte :=
  BitVec.ofNat 8 (bit sign * 128 + bit zero * 64 + bit ac * 16 + bit parity * 4 + bit cy)

/-- R112: the reference unit's function `EU_ALU(op, use_carry, a, f, x)`. -/
def refAlu (op : AluOp) (useCarry : Bool) (a f x : Byte) : Byte × Byte :=
  let cin := useCarry && refCarry f
  let r := aluResult op cin a x
  (r, packFlags (r.getLsbD 7) (decide (r = 0)) (refAC op cin a x) (evenParity r) (refCY op cin a x))

/-- R112: the reference Execution Unit, the default of the parameter `EU`. -/
def referenceEU : ExecutionUnit := { alu := refAlu, carry := refCarry }

/-- R16, R112: the flags of the reference layout, as readings of `F`. -/
def flagS (f : Byte) : Bool := f.getLsbD 7

/-- R16, R112: bit 6 of `F`, zero. -/
def flagZ (f : Byte) : Bool := f.getLsbD 6

/-- R16, R112: bit 4 of `F`, auxiliary carry. -/
def flagAC (f : Byte) : Bool := f.getLsbD 4

/-- R16, R112: bit 2 of `F`, parity (1 = even). -/
def flagP (f : Byte) : Bool := f.getLsbD 2

/-- R16, R112: bit 0 of `F`, carry. -/
def flagCY (f : Byte) : Bool := f.getLsbD 0

end Sys2Proof.Machine
end

