-- ==== Sys2Proof/Machine/Memory.lean ====
section
/-! DEFINITION. Memory as plain data (spec/20_memory.md R31, R24): 65536 byte cells of plain
read-write storage, held as the list of the cells that the reset, the host or the program wrote,
addresses strictly rising; every other cell holds the free value `Config.launchByte` (U5). There is no ROM, no hole and no device in the memory space (R31, R38). -/

namespace Sys2Proof.Machine

/-- The cells that are listed: address and byte. -/
abbrev Memory := List Host.Cell

/-- The byte at an address. R31 makes what nothing wrote the launch memory, a parameter of the host; what
the host did not place is any value (U5), the free value of that address (notes/assumptions/1.md). -/
def Memory.get : Memory → Nat → Byte
  | [], a => Config.launchByte a
  | (k, v) :: m, a => if k = a then v else Memory.get m a

/-- The memory without an entry for an address. -/
def Memory.erase : Memory → Nat → Memory
  | [], _ => []
  | (k, v) :: m, a => if k = a then Memory.erase m a else (k, v) :: Memory.erase m a

/-- The memory with one more entry, in its place in the rising order. -/
def Memory.insert : Memory → Nat → Byte → Memory
  | [], a, v => [(a, v)]
  | (k, w) :: m, a, v => if a < k then (a, v) :: (k, w) :: m else (k, w) :: Memory.insert m a v

/-- The memory after one byte is written: one entry for that address. -/
def Memory.put (m : Memory) (a : Nat) (v : Byte) : Memory :=
  Memory.insert (Memory.erase m a) a v

/-- The canonical form of the part of a memory whose addresses are at least `lo`. -/
def Memory.wfFrom : Nat → Memory → Bool
  | _, [] => true
  | lo, (k, _) :: m =>
    decide (lo ≤ k) && decide (k < 65536) && Memory.wfFrom (k + 1) m

/-- The canonical form: addresses strictly rising and below 65536 (R24). No entry can be said to equal
what its address reads as unlisted, since that is a free value, so the cells listed are exactly those
written. -/
def Memory.wf (m : Memory) : Bool := Memory.wfFrom 0 m

end Sys2Proof.Machine
end

