-- ==== Sys2Proof/Machine/Parameters.lean ====
section
/-! DEFINITION. The values this model gives the parameters of spec/00_scope.md R5, one definition
each, and the record of them all, `config`. The decisions are those of spec/92_eei_decisions.md; the
log entries are notes/assumptions/4.md to 9.md. -/

namespace Sys2Proof.Machine

/-- R5, `RESET_REGS`: OPEN, default all 0 (decision D11; DESIGN CHOICE, notes/assumptions/4.md). -/
def resetRegs : ResetRegs :=
  { a := 0, b := 0, c := 0, d := 0, e := 0, h := 0, l := 0, f := 0, sp := 0 }

/-- R5: the parameter values of the spec's table. -/
def config : Config where
  rstStride := 8
  intVectorBase := 0x002C
  trapVector := 0x0024
  haltSeedAddr := 0x0000
  haltOpcode := 0x76
  resetPc := 0x0000
  resetIe := false
  resetRegs := resetRegs
  oraBase := 0xB0
  subIsSubtract := true
  eu := referenceEU

end Sys2Proof.Machine
end

