-- ==== Sys2Proof/Machine/State.lean ====
section
/-! DEFINITION. The state of the machine: the tuple at the head of spec/10_state.md, the external I/O
oracle and the event trace it names beside it, and the schedule of external events (R8, U10). All of
it is plain data. -/

namespace Sys2Proof.Machine

/-- R74: the sequencer's position inside a step. -/
inductive Phase where
  | exec
  | service
  deriving DecidableEq, Repr

/-- R9, R177: an acknowledger token, an opaque handle. -/
abbrev Token := Nat

/-- R19: the pending-interrupt record, a line index in 0, 1, 2 and a token or none. -/
structure Pending where
  line : Fin 3
  token : Option Token
  deriving DecidableEq, Repr

/-- R21, R173: what the sticky `FAULT` register records beside `none`. -/
inductive FaultRecord where
  /-- R170, cause code 1: `Fetch()` met a bus value outside 0..255. Unreachable on the 8-bit bus. -/
  | invalidByte (value : Nat) (addr : Word)
  /-- R171, cause code 2: a byte fetched as an opcode is in the illegal set. -/
  | invalidOpcode (value : Byte) (addr : Word)
  deriving DecidableEq, Repr

/-- R45, R32, R177: one bus transaction of the Control Unit, or the acknowledge output, as the
history of a run records it. `ioWrite` and `intAck` are the output events. -/
inductive Transaction where
  | memRead (addr : Word) (value : Byte)
  | memWrite (addr : Word) (value : Byte)
  | ioRead (port : Byte) (value : Byte)
  | ioWrite (port : Byte) (value : Byte)
  | intAck (token : Token)
  deriving DecidableEq, Repr

/-- R8: an event of an agent other than the sequencer: a requester's `Request` (R175; a line outside
0..2 is outside the interface), the trap source's `Trap` (R179), the host's `Reset` (R200). -/
inductive Event where
  | request (line : Nat) (token : Option Token)
  | trap
  | reset
  deriving DecidableEq, Repr

/-- The state of the machine (spec/10_state.md). -/
structure State where
  /-- R10: the accumulator. -/
  a : Byte
  /-- R10. -/
  b : Byte
  /-- R10. -/
  c : Byte
  /-- R10. -/
  d : Byte
  /-- R10. -/
  e : Byte
  /-- R10: high half of the memory-operand address. -/
  h : Byte
  /-- R10: low half of the memory-operand address. -/
  l : Byte
  /-- R16: the flag register. -/
  f : Byte
  /-- R13: the program counter. -/
  pc : Word
  /-- R15: the stack pointer. -/
  sp : Word
  /-- R17: `IE`, the interrupt-enable flag. -/
  ie : Bool
  /-- R18: `MASK`; bit `i` set masks line `i`. -/
  mask : BitVec 3
  /-- R19: `PENDING`. -/
  pending : Option Pending
  /-- R20: `RUN`; false is the halted state. -/
  run : Bool
  /-- R21: `FAULT`. -/
  fault : Option FaultRecord
  /-- R22: `IR`, the current opcode. -/
  ir : Byte
  /-- R24, R31: the memory space. -/
  mem : Memory
  /-- R74: `phase`. -/
  phase : Phase
  /-- R45, R32, R177: the history of transactions and output events, the newest first. -/
  history : List Transaction
  /-- R32: the I/O oracle, the answers the devices will give to the coming `IORead`s, the next first. -/
  ioAnswers : List Byte
  /-- The model's own field: how many free values `Config.ioDraw` has given (notes/assumptions/3.md). -/
  ioDraws : Nat
  /-- R8, R74, U10: the external events, one list for each phase boundary to come, the next first
  (the model's own form of "any phase boundary", notes/assumptions/11.md). -/
  schedule : List (List Event)
  deriving DecidableEq, Repr

/-- Why a step has no next state. -/
inductive Fault where
  /-- Raised by `step` when `RUN = 0`, `FAULT = none` and no external event is scheduled: the halted
  state, the one final state (R77, R190, U15: "stuck by design"). Safe: the spec gives it no step. -/
  | halted
  /-- Raised by `step` when `FAULT ≠ none` and no external event is scheduled: the faulted state has
  no step and is never final (R172, U14). Safe: the spec gives it no step. -/
  | faulted (record : FaultRecord)
  deriving DecidableEq, Repr

/-- Why a step has no meaning. -/
inductive Refusal where
  /-- An instruction that has no meaning in the model yet. No arm of `exec` answers it. Safe. -/
  | notModelled (mnemonic : String)
  /-- Raised by the application of a scheduled `Request` on a line outside 0..2: "a model refuses such
  an event" (R175, decision D30, U11). Safe: nothing is claimed of such a run. -/
  | requestOutsideInterface (line : Nat)
  deriving DecidableEq, Repr

/-- What a meaning and a step answer. -/
abbrev Result := Host.Outcome State Fault Refusal

/-- R26, R200: the machine with the parameters of `cfg` right after reset, nothing loaded. Memory holds
the one seeded byte and the history the one write that seeded it (R45). `IR` is unspecified in R26; the
model names 0x00 (DESIGN CHOICE, notes/assumptions/4.md). -/
def State.resetWith (cfg : Config) : State where
  a := cfg.resetRegs.a
  b := cfg.resetRegs.b
  c := cfg.resetRegs.c
  d := cfg.resetRegs.d
  e := cfg.resetRegs.e
  h := cfg.resetRegs.h
  l := cfg.resetRegs.l
  f := cfg.resetRegs.f
  pc := cfg.resetPc
  sp := cfg.resetRegs.sp
  ie := cfg.resetIe
  mask := 0
  pending := none
  run := true
  fault := none
  ir := 0
  mem := Memory.put [] cfg.haltSeedAddr.toNat cfg.haltOpcode
  phase := .exec
  history := [.memWrite cfg.haltSeedAddr cfg.haltOpcode]
  ioAnswers := []
  ioDraws := 0
  schedule := []

/-- R26, R200: the machine right after reset, with the parameter values of this model. -/
def State.reset : State := State.resetWith config

end Sys2Proof.Machine
end

