-- ==== Sys2Proof/Syntax.lean ====
section
/-! DEFINITION. The instructions (spec/30_encoding.md R56, spec/opcode_table.json): one constructor for
each of the 163 legal opcode bytes, its operand the immediate of R52 where the format has one. Beside
them the operand names (R12, R11), the seven ALU families (R57) and the assembler's way of writing an
instruction (R61). -/

namespace Sys2Proof

/-- R10: the seven general registers, in the operand order of R12. -/
inductive Reg where
  | b
  | c
  | d
  | e
  | h
  | l
  | a
  deriving DecidableEq, Repr

/-- R12: an 8-bit operand: a register, or `M`, the byte in memory at `HL`. -/
inductive Operand where
  | reg (r : Reg)
  | mem
  deriving DecidableEq, Repr

/-- R11: the register pairs of `PUSH` and `POP`; the first three are also those of `LXI`. -/
inductive Pair where
  | bc
  | de
  | hl
  | af
  deriving DecidableEq, Repr

/-- R61: a register pair as the assembler spells it. -/
inductive PairName where
  | b
  | d
  | h
  | sp
  | psw
  deriving DecidableEq, Repr

/-- R57, R110: the seven ALU families. -/
inductive AluFamily where
  | add
  | adc
  | sub
  | sbb
  | ana
  | ora
  | xra
  deriving DecidableEq, Repr

/-- R61: an assembler statement: a mnemonic with its operands as they are written. Numbers are written
numbers, so a statement may be ill-formed (Sys2Proof/WellFormed.lean). `alu` spells `ADD ADC SUB SBB
ANA ORA XRA`, `aluImmediate` spells `ADI ACI SUI SBI ANI ORI XRI`. -/
inductive Asm where
  | nop
  | hlt
  | mvi (dest : Operand) (d8 : Nat)
  | lxi (pair : PairName) (d16 : Nat)
  | mov (dest source : Operand)
  | push (pair : PairName)
  | pop (pair : PairName)
  | alu (family : AluFamily) (source : Operand)
  | aluImmediate (family : AluFamily) (d8 : Nat)
  | jmp (a16 : Nat)
  | ret
  | rst (n : Nat)
  | inPort (p8 : Nat)
  | outPort (p8 : Nat)
  | ei
  | di
  | sim
  deriving DecidableEq, Repr

/-- The instructions: one constructor per row of spec/opcode_table.json. -/
inductive Instr where
  -- NOP (R78)
  | nop
  -- HLT (R79)
  | hlt
  -- MVI (R90, R91)
  | mviB (d8 : Byte)
  | mviC (d8 : Byte)
  | mviD (d8 : Byte)
  | mviE (d8 : Byte)
  | mviH (d8 : Byte)
  | mviL (d8 : Byte)
  | mviM (d8 : Byte)
  | mviA (d8 : Byte)
  -- LXI (R92)
  | lxiB (d16 : Word)
  | lxiD (d16 : Word)
  | lxiH (d16 : Word)
  | lxiSP (d16 : Word)
  -- MOV (R93, R94, R95)
  | movBB
  | movBC
  | movBD
  | movBE
  | movBH
  | movBL
  | movBM
  | movBA
  | movCB
  | movCC
  | movCD
  | movCE
  | movCH
  | movCL
  | movCM
  | movCA
  | movDB
  | movDC
  | movDD
  | movDE
  | movDH
  | movDL
  | movDM
  | movDA
  | movEB
  | movEC
  | movED
  | movEE
  | movEH
  | movEL
  | movEM
  | movEA
  | movHB
  | movHC
  | movHD
  | movHE
  | movHH
  | movHL
  | movHM
  | movHA
  | movLB
  | movLC
  | movLD
  | movLE
  | movLH
  | movLL
  | movLM
  | movLA
  | movMB
  | movMC
  | movMD
  | movME
  | movMH
  | movML
  | movMA
  | movAB
  | movAC
  | movAD
  | movAE
  | movAH
  | movAL
  | movAM
  | movAA
  -- PUSH (R99)
  | pushB
  | pushD
  | pushH
  | pushPSW
  -- POP (R100)
  | popB
  | popD
  | popH
  | popPSW
  -- ADD (R113)
  | addB
  | addC
  | addD
  | addE
  | addH
  | addL
  | addM
  | addA
  -- ADC (R114)
  | adcB
  | adcC
  | adcD
  | adcE
  | adcH
  | adcL
  | adcM
  | adcA
  -- SUB (R115)
  | subB
  | subC
  | subD
  | subE
  | subH
  | subL
  | subM
  | subA
  -- SBB (R116)
  | sbbB
  | sbbC
  | sbbD
  | sbbE
  | sbbH
  | sbbL
  | sbbM
  | sbbA
  -- ANA (R117)
  | anaB
  | anaC
  | anaD
  | anaE
  | anaH
  | anaL
  | anaM
  | anaA
  -- ORA (R118)
  | oraB
  | oraC
  | oraD
  | oraE
  | oraH
  | oraL
  | oraM
  | oraA
  -- XRA (R119)
  | xraB
  | xraC
  | xraD
  | xraE
  | xraH
  | xraL
  | xraM
  | xraA
  -- ADI (R120)
  | adi (d8 : Byte)
  -- ACI (R121)
  | aci (d8 : Byte)
  -- SUI (R122)
  | sui (d8 : Byte)
  -- SBI (R123)
  | sbi (d8 : Byte)
  -- ANI (R124)
  | ani (d8 : Byte)
  -- ORI (R125)
  | ori (d8 : Byte)
  -- XRI (R126)
  | xri (d8 : Byte)
  -- JMP (R141)
  | jmp (a16 : Word)
  -- RET (R142)
  | ret
  -- RST (R143)
  | rst0
  | rst1
  | rst2
  | rst3
  | rst4
  | rst5
  | rst6
  | rst7
  -- IN (R155)
  | inPort (p8 : Byte)
  -- OUT (R156)
  | outPort (p8 : Byte)
  -- EI (R157)
  | ei
  -- DI (R158)
  | di
  -- SIM (R159)
  | sim
  deriving DecidableEq, Repr

/-- R61: the assembler spelling of an instruction. -/
def Instr.asm : Instr → Asm
  | .nop => .nop
  | .hlt => .hlt
  | .mviB d8 => .mvi (.reg .b) d8.toNat
  | .mviC d8 => .mvi (.reg .c) d8.toNat
  | .mviD d8 => .mvi (.reg .d) d8.toNat
  | .mviE d8 => .mvi (.reg .e) d8.toNat
  | .mviH d8 => .mvi (.reg .h) d8.toNat
  | .mviL d8 => .mvi (.reg .l) d8.toNat
  | .mviM d8 => .mvi .mem d8.toNat
  | .mviA d8 => .mvi (.reg .a) d8.toNat
  | .lxiB d16 => .lxi .b d16.toNat
  | .lxiD d16 => .lxi .d d16.toNat
  | .lxiH d16 => .lxi .h d16.toNat
  | .lxiSP d16 => .lxi .sp d16.toNat
  | .movBB => .mov (.reg .b) (.reg .b)
  | .movBC => .mov (.reg .b) (.reg .c)
  | .movBD => .mov (.reg .b) (.reg .d)
  | .movBE => .mov (.reg .b) (.reg .e)
  | .movBH => .mov (.reg .b) (.reg .h)
  | .movBL => .mov (.reg .b) (.reg .l)
  | .movBM => .mov (.reg .b) .mem
  | .movBA => .mov (.reg .b) (.reg .a)
  | .movCB => .mov (.reg .c) (.reg .b)
  | .movCC => .mov (.reg .c) (.reg .c)
  | .movCD => .mov (.reg .c) (.reg .d)
  | .movCE => .mov (.reg .c) (.reg .e)
  | .movCH => .mov (.reg .c) (.reg .h)
  | .movCL => .mov (.reg .c) (.reg .l)
  | .movCM => .mov (.reg .c) .mem
  | .movCA => .mov (.reg .c) (.reg .a)
  | .movDB => .mov (.reg .d) (.reg .b)
  | .movDC => .mov (.reg .d) (.reg .c)
  | .movDD => .mov (.reg .d) (.reg .d)
  | .movDE => .mov (.reg .d) (.reg .e)
  | .movDH => .mov (.reg .d) (.reg .h)
  | .movDL => .mov (.reg .d) (.reg .l)
  | .movDM => .mov (.reg .d) .mem
  | .movDA => .mov (.reg .d) (.reg .a)
  | .movEB => .mov (.reg .e) (.reg .b)
  | .movEC => .mov (.reg .e) (.reg .c)
  | .movED => .mov (.reg .e) (.reg .d)
  | .movEE => .mov (.reg .e) (.reg .e)
  | .movEH => .mov (.reg .e) (.reg .h)
  | .movEL => .mov (.reg .e) (.reg .l)
  | .movEM => .mov (.reg .e) .mem
  | .movEA => .mov (.reg .e) (.reg .a)
  | .movHB => .mov (.reg .h) (.reg .b)
  | .movHC => .mov (.reg .h) (.reg .c)
  | .movHD => .mov (.reg .h) (.reg .d)
  | .movHE => .mov (.reg .h) (.reg .e)
  | .movHH => .mov (.reg .h) (.reg .h)
  | .movHL => .mov (.reg .h) (.reg .l)
  | .movHM => .mov (.reg .h) .mem
  | .movHA => .mov (.reg .h) (.reg .a)
  | .movLB => .mov (.reg .l) (.reg .b)
  | .movLC => .mov (.reg .l) (.reg .c)
  | .movLD => .mov (.reg .l) (.reg .d)
  | .movLE => .mov (.reg .l) (.reg .e)
  | .movLH => .mov (.reg .l) (.reg .h)
  | .movLL => .mov (.reg .l) (.reg .l)
  | .movLM => .mov (.reg .l) .mem
  | .movLA => .mov (.reg .l) (.reg .a)
  | .movMB => .mov .mem (.reg .b)
  | .movMC => .mov .mem (.reg .c)
  | .movMD => .mov .mem (.reg .d)
  | .movME => .mov .mem (.reg .e)
  | .movMH => .mov .mem (.reg .h)
  | .movML => .mov .mem (.reg .l)
  | .movMA => .mov .mem (.reg .a)
  | .movAB => .mov (.reg .a) (.reg .b)
  | .movAC => .mov (.reg .a) (.reg .c)
  | .movAD => .mov (.reg .a) (.reg .d)
  | .movAE => .mov (.reg .a) (.reg .e)
  | .movAH => .mov (.reg .a) (.reg .h)
  | .movAL => .mov (.reg .a) (.reg .l)
  | .movAM => .mov (.reg .a) .mem
  | .movAA => .mov (.reg .a) (.reg .a)
  | .pushB => .push .b
  | .pushD => .push .d
  | .pushH => .push .h
  | .pushPSW => .push .psw
  | .popB => .pop .b
  | .popD => .pop .d
  | .popH => .pop .h
  | .popPSW => .pop .psw
  | .addB => .alu .add (.reg .b)
  | .addC => .alu .add (.reg .c)
  | .addD => .alu .add (.reg .d)
  | .addE => .alu .add (.reg .e)
  | .addH => .alu .add (.reg .h)
  | .addL => .alu .add (.reg .l)
  | .addM => .alu .add .mem
  | .addA => .alu .add (.reg .a)
  | .adcB => .alu .adc (.reg .b)
  | .adcC => .alu .adc (.reg .c)
  | .adcD => .alu .adc (.reg .d)
  | .adcE => .alu .adc (.reg .e)
  | .adcH => .alu .adc (.reg .h)
  | .adcL => .alu .adc (.reg .l)
  | .adcM => .alu .adc .mem
  | .adcA => .alu .adc (.reg .a)
  | .subB => .alu .sub (.reg .b)
  | .subC => .alu .sub (.reg .c)
  | .subD => .alu .sub (.reg .d)
  | .subE => .alu .sub (.reg .e)
  | .subH => .alu .sub (.reg .h)
  | .subL => .alu .sub (.reg .l)
  | .subM => .alu .sub .mem
  | .subA => .alu .sub (.reg .a)
  | .sbbB => .alu .sbb (.reg .b)
  | .sbbC => .alu .sbb (.reg .c)
  | .sbbD => .alu .sbb (.reg .d)
  | .sbbE => .alu .sbb (.reg .e)
  | .sbbH => .alu .sbb (.reg .h)
  | .sbbL => .alu .sbb (.reg .l)
  | .sbbM => .alu .sbb .mem
  | .sbbA => .alu .sbb (.reg .a)
  | .anaB => .alu .ana (.reg .b)
  | .anaC => .alu .ana (.reg .c)
  | .anaD => .alu .ana (.reg .d)
  | .anaE => .alu .ana (.reg .e)
  | .anaH => .alu .ana (.reg .h)
  | .anaL => .alu .ana (.reg .l)
  | .anaM => .alu .ana .mem
  | .anaA => .alu .ana (.reg .a)
  | .oraB => .alu .ora (.reg .b)
  | .oraC => .alu .ora (.reg .c)
  | .oraD => .alu .ora (.reg .d)
  | .oraE => .alu .ora (.reg .e)
  | .oraH => .alu .ora (.reg .h)
  | .oraL => .alu .ora (.reg .l)
  | .oraM => .alu .ora .mem
  | .oraA => .alu .ora (.reg .a)
  | .xraB => .alu .xra (.reg .b)
  | .xraC => .alu .xra (.reg .c)
  | .xraD => .alu .xra (.reg .d)
  | .xraE => .alu .xra (.reg .e)
  | .xraH => .alu .xra (.reg .h)
  | .xraL => .alu .xra (.reg .l)
  | .xraM => .alu .xra .mem
  | .xraA => .alu .xra (.reg .a)
  | .adi d8 => .aluImmediate .add d8.toNat
  | .aci d8 => .aluImmediate .adc d8.toNat
  | .sui d8 => .aluImmediate .sub d8.toNat
  | .sbi d8 => .aluImmediate .sbb d8.toNat
  | .ani d8 => .aluImmediate .ana d8.toNat
  | .ori d8 => .aluImmediate .ora d8.toNat
  | .xri d8 => .aluImmediate .xra d8.toNat
  | .jmp a16 => .jmp a16.toNat
  | .ret => .ret
  | .rst0 => .rst 0
  | .rst1 => .rst 1
  | .rst2 => .rst 2
  | .rst3 => .rst 3
  | .rst4 => .rst 4
  | .rst5 => .rst 5
  | .rst6 => .rst 6
  | .rst7 => .rst 7
  | .inPort p8 => .inPort p8.toNat
  | .outPort p8 => .outPort p8.toNat
  | .ei => .ei
  | .di => .di
  | .sim => .sim

/-- R50: the format of an instruction, by the mnemonic: how many bytes it has, the opcode among
them. -/
def Asm.byteLength : Asm → Nat
  | .nop | .hlt | .mov _ _ | .push _ | .pop _ | .alu _ _ | .ret | .rst _ | .ei | .di | .sim => 1
  | .mvi _ _ | .aluImmediate _ _ | .inPort _ | .outPort _ => 2
  | .lxi _ _ | .jmp _ => 3

/-- R50: the length of an instruction in bytes. -/
def Instr.length (i : Instr) : Nat := i.asm.byteLength

end Sys2Proof
end

