-- ==== Sys2Proof/Machine/Ops.lean ====
section
/-! DEFINITION. The named operations over memory, ports and registers (the primitives of
spec/00_scope.md R7), the vector call every entry to a handler goes through (`restart`, R140), and the
raise of a fault (`raise`, R172). Every memory and port access goes through `memRead`, `memWrite`,
`ioRead`, `ioWrite`, which record it in the history in the order made (R40, R45). -/

namespace Sys2Proof.Machine

/-- The byte memory holds at an address, read without a bus transaction: what an observer sees. -/
def memByte (s : State) (addr : Word) : Byte := Memory.get s.mem addr.toNat

/-- The state with one more transaction in its history. -/
def record (t : Transaction) (s : State) : State := { s with history := t :: s.history }

/-- R31: `MemRead(addr, 1)`. A read has no side effect but its own record. -/
def memRead (addr : Word) (s : State) : Byte × State :=
  (memByte s addr, record (.memRead addr (memByte s addr)) s)

/-- R31: `MemWrite(addr, 1, v)`. -/
def memWrite (addr : Word) (v : Byte) (s : State) : State :=
  record (.memWrite addr v) { s with mem := Memory.put s.mem addr.toNat v }

/-- R32: the oracle answer of the next `IORead`: the next answer the host placed, else a free value
(notes/assumptions/3.md). -/
def ioAnswer (port : Byte) (s : State) : Byte :=
  match s.ioAnswers with
  | v :: _ => v
  | [] => Config.ioDraw s.ioDraws port

/-- R32: `IORead(port)`: the answer, and the oracle moved past it. -/
def ioRead (port : Byte) (s : State) : Byte × State :=
  (ioAnswer port s,
    record (.ioRead port (ioAnswer port s))
      { s with
        ioAnswers := s.ioAnswers.tail
        ioDraws := if s.ioAnswers = [] then s.ioDraws + 1 else s.ioDraws })

/-- R32: `IOWrite(port, v)`, an output event; it changes no state of the Control Unit. -/
def ioWrite (port v : Byte) (s : State) : State := record (.ioWrite port v) s

/-- R177: `emit IntAck(tok)`, when there is a token. -/
def emitIntAck (token : Option Token) (s : State) : State :=
  match token with
  | some t => record (.intAck t) s
  | none => s

/-- R10: the value of a named register. -/
def getReg (r : Reg) (s : State) : Byte :=
  match r with
  | .b => s.b
  | .c => s.c
  | .d => s.d
  | .e => s.e
  | .h => s.h
  | .l => s.l
  | .a => s.a

/-- R10: `R[r] <- v`. No register is hard-wired. -/
def setReg (r : Reg) (v : Byte) (s : State) : State :=
  match r with
  | .b => { s with b := v }
  | .c => { s with c := v }
  | .d => { s with d := v }
  | .e => { s with e := v }
  | .h => { s with h := v }
  | .l => { s with l := v }
  | .a => { s with a := v }

/-- R6, R11: `HL = {R[H], R[L]}`, the address of every `M` operand. -/
def hlAddr (s : State) : Word := joinBytes s.h s.l

/-- R11: `RdPair(p)`; the first-named register is the high half. -/
def rdPair (p : Pair) (s : State) : Word :=
  match p with
  | .bc => joinBytes s.b s.c
  | .de => joinBytes s.d s.e
  | .hl => joinBytes s.h s.l
  | .af => joinBytes s.a s.f

/-- R11: `WrPair(p, w)`. -/
def wrPair (p : Pair) (w : Word) (s : State) : State :=
  match p with
  | .bc => { s with b := hiByte w, c := loByte w }
  | .de => { s with d := hiByte w, e := loByte w }
  | .hl => { s with h := hiByte w, l := loByte w }
  | .af => { s with a := hiByte w, f := loByte w }

/-- R172: `FAULT <- kind(v, addr)`. Nothing is pushed, redirected or saved. -/
def raise (r : FaultRecord) (s : State) : State := { s with fault := some r }

/-- R173: the cause codes the spec assigns. -/
def causeCode : Option FaultRecord → Nat
  | none => 0
  | some (.invalidByte _ _) => 1
  | some (.invalidOpcode _ _) => 2

/-- What one `Fetch()` gives: a byte, or the raise of `InvalidByte`; in both the state after it. -/
inductive Fetched where
  | byte (v : Byte) (s : State)
  | invalid (r : FaultRecord) (s : State)
  deriving DecidableEq, Repr

/-- R70: `Fetch()`: read at `PC`, advance `PC`, then check the byte range. On this 8-bit bus the check
never fails (R170). -/
def fetch (s : State) : Fetched :=
  let addr := s.pc
  let (v, s1) := memRead addr s
  let s2 := { s1 with pc := s1.pc + 1 }
  if v.toNat ≤ 255 then .byte v s2 else .invalid (.invalidByte v.toNat addr) s2

/-- R97: `Push16(w)`: decrement `SP`, write the high byte, decrement `SP`, write the low byte. -/
def push16 (w : Word) (s : State) : State :=
  let s1 := { s with sp := s.sp - 1 }
  let s2 := memWrite s1.sp (hiByte w) s1
  let s3 := { s2 with sp := s2.sp - 1 }
  memWrite s3.sp (loByte w) s3

/-- R98: `Pop16()`: read the low byte at `SP`, increment `SP`, read the high byte, increment `SP`. -/
def pop16 (s : State) : Word × State :=
  let (lo, s1) := memRead s.sp s
  let s2 := { s1 with sp := s1.sp + 1 }
  let (hi, s3) := memRead s2.sp s2
  (joinBytes hi lo, { s3 with sp := s3.sp + 1 })

/-- R140: `Restart(v)`: push `PC`, then `PC <- v`. The one entry operation of `RST n` (R143), of the
interrupt service (R176) and of the trap (R179). -/
def restart (v : Word) (s : State) : State := { push16 s.pc s with pc := v }

/-- R142, R181: the return from a call, an interrupt or a trap, `PC <- Pop16()`. It restores nothing
else. -/
def returnFromStack (s : State) : State :=
  let (w, s1) := pop16 s
  { s1 with pc := w }

/-- R143, R52: the target of `RST n`, `zext_16(n) × 8`. -/
def restartVector (c : Config) (n : Fin 8) : Word := BitVec.ofNat 16 n.val * c.rstStride

/-- R176: the target of the service of line `i`, `INT_VECTOR_BASE + zext_16(i) × 8`. -/
def interruptVector (c : Config) (i : Fin 3) : Word :=
  c.intVectorBase + BitVec.ofNat 16 i.val * c.rstStride

/-- R20: the output `Halted = not RUN`. -/
def haltedOutput (s : State) : Bool := !s.run

/-- R172: the output `Fault = FAULT`. -/
def faultOutput (s : State) : Option FaultRecord := s.fault

/-- Whether a transaction is an output event (spec/10_state.md, R32, R177). -/
def Transaction.isOutput : Transaction → Bool
  | .ioWrite _ _ => true
  | .intAck _ => true
  | .memRead _ _ => false
  | .memWrite _ _ => false
  | .ioRead _ _ => false

/-- The output-event trace, the oldest event first. -/
def outputTrace (s : State) : List Transaction := (s.history.filter Transaction.isOutput).reverse

end Sys2Proof.Machine
end

