-- ==== Sys2Proof/Machine/Operands.lean ====
section
/-! DEFINITION. The operand forms: the 8-bit operand with the pseudo-register `M` (spec/10_state.md
R12) and the operand bytes an instruction's rule fetches (R50, R52). -/

namespace Sys2Proof.Machine

/-- R12: `RdOp8(s)`; `M` is a bus read at `HL`. -/
def rdOp8 (o : Operand) (s : State) : Byte × State :=
  match o with
  | .reg r => (getReg r s, s)
  | .mem => memRead (hlAddr s) s

/-- R12: `WrOp8(s, v)`; `M` is a bus write at `HL`, never storage. -/
def wrOp8 (o : Operand) (v : Byte) (s : State) : State :=
  match o with
  | .reg r => setReg r v s
  | .mem => memWrite (hlAddr s) v s

/-- One operand `Fetch()` of an instruction's rule, the rest of the rule being `k`. The byte it reads
is the one the decoder put into the instruction, so only the state goes on; an `InvalidByte` ends the
rule with what it has done so far (R76, decision D27). -/
def operandByte (s : State) (k : State → Result) : Result :=
  match fetch s with
  | .byte _ t => k t
  | .invalid r t => .next (raise r t)

/-- The two operand `Fetch()`es of format `F3`, the low byte first (R52, R33, decision D28). -/
def operandWord (s : State) (k : State → Result) : Result :=
  operandByte s fun t => operandByte t k

end Sys2Proof.Machine
end

