-- ==== Sys2Proof/Machine/Alu.lean ====
section
/-! DEFINITION. Arithmetic and logic dispatch (spec/42_alu_dispatch.md): the Control Unit chooses the
operation and delivers the operand (R110); the result and the flags are the Execution Unit's (R111).
First the shared operations, then one meaning per instruction. A meaning takes the configuration (R5) as its
last argument, by default the one this model runs with. -/

namespace Sys2Proof.Machine

/-- R110: the `(op, use_carry)` of each family. The subtract families subtract (decision D6); with the
parameter `SUB_IS_SUBTRACT` false they would add (notes/assumptions/8.md). -/
def aluSelect (c : Config) : AluFamily → AluOp × Bool
  | .add => (.add, false)
  | .adc => (.add, true)
  | .sub => (if c.subIsSubtract then .sub else .add, false)
  | .sbb => (if c.subIsSubtract then .sub else .add, true)
  | .ana => (.and, false)
  | .ora => (.or, false)
  | .xra => (.xor, false)

/-- R110: `(R[A], R[F]) <- EU_ALU(op, use_carry, R[A], R[F], x)`. -/
def aluApply (c : Config) (family : AluFamily) (x : Byte) (s : State) : State :=
  let (op, useCarry) := aluSelect c family
  let (a', f') := c.eu.alu op useCarry s.a s.f x
  { s with a := a', f := f' }

/-- R110, R113 to R119: the register and `M` forms: `x <- RdOp8(sss)`, then the Execution Unit. -/
def aluOperand (c : Config) (family : AluFamily) (o : Operand) (s : State) : Result :=
  .next (aluApply c family (rdOp8 o s).1 (rdOp8 o s).2)

/-- R110, R120 to R126: the immediate forms: `x <- Fetch()`, then the Execution Unit. -/
def aluImmediateOp (c : Config) (family : AluFamily) (d8 : Byte) (s : State) : Result :=
  operandByte s fun t => .next (aluApply c family d8 t)

/-- R113: `ADD B`, opcode 0x80. -/
def execAddB (s : State) (c : Config := config) : Result :=
  aluOperand c .add (.reg .b) s

/-- R113: `ADD C`, opcode 0x81. -/
def execAddC (s : State) (c : Config := config) : Result :=
  aluOperand c .add (.reg .c) s

/-- R113: `ADD D`, opcode 0x82. -/
def execAddD (s : State) (c : Config := config) : Result :=
  aluOperand c .add (.reg .d) s

/-- R113: `ADD E`, opcode 0x83. -/
def execAddE (s : State) (c : Config := config) : Result :=
  aluOperand c .add (.reg .e) s

/-- R113: `ADD H`, opcode 0x84. -/
def execAddH (s : State) (c : Config := config) : Result :=
  aluOperand c .add (.reg .h) s

/-- R113: `ADD L`, opcode 0x85. -/
def execAddL (s : State) (c : Config := config) : Result :=
  aluOperand c .add (.reg .l) s

/-- R113: `ADD M`, opcode 0x86. -/
def execAddM (s : State) (c : Config := config) : Result :=
  aluOperand c .add .mem s

/-- R113: `ADD A`, opcode 0x87. -/
def execAddA (s : State) (c : Config := config) : Result :=
  aluOperand c .add (.reg .a) s

/-- R114: `ADC B`, opcode 0x88. -/
def execAdcB (s : State) (c : Config := config) : Result :=
  aluOperand c .adc (.reg .b) s

/-- R114: `ADC C`, opcode 0x89. -/
def execAdcC (s : State) (c : Config := config) : Result :=
  aluOperand c .adc (.reg .c) s

/-- R114: `ADC D`, opcode 0x8A. -/
def execAdcD (s : State) (c : Config := config) : Result :=
  aluOperand c .adc (.reg .d) s

/-- R114: `ADC E`, opcode 0x8B. -/
def execAdcE (s : State) (c : Config := config) : Result :=
  aluOperand c .adc (.reg .e) s

/-- R114: `ADC H`, opcode 0x8C. -/
def execAdcH (s : State) (c : Config := config) : Result :=
  aluOperand c .adc (.reg .h) s

/-- R114: `ADC L`, opcode 0x8D. -/
def execAdcL (s : State) (c : Config := config) : Result :=
  aluOperand c .adc (.reg .l) s

/-- R114: `ADC M`, opcode 0x8E. -/
def execAdcM (s : State) (c : Config := config) : Result :=
  aluOperand c .adc .mem s

/-- R114: `ADC A`, opcode 0x8F. -/
def execAdcA (s : State) (c : Config := config) : Result :=
  aluOperand c .adc (.reg .a) s

/-- R115: `SUB B`, opcode 0x90. -/
def execSubB (s : State) (c : Config := config) : Result :=
  aluOperand c .sub (.reg .b) s

/-- R115: `SUB C`, opcode 0x91. -/
def execSubC (s : State) (c : Config := config) : Result :=
  aluOperand c .sub (.reg .c) s

/-- R115: `SUB D`, opcode 0x92. -/
def execSubD (s : State) (c : Config := config) : Result :=
  aluOperand c .sub (.reg .d) s

/-- R115: `SUB E`, opcode 0x93. -/
def execSubE (s : State) (c : Config := config) : Result :=
  aluOperand c .sub (.reg .e) s

/-- R115: `SUB H`, opcode 0x94. -/
def execSubH (s : State) (c : Config := config) : Result :=
  aluOperand c .sub (.reg .h) s

/-- R115: `SUB L`, opcode 0x95. -/
def execSubL (s : State) (c : Config := config) : Result :=
  aluOperand c .sub (.reg .l) s

/-- R115: `SUB M`, opcode 0x96. -/
def execSubM (s : State) (c : Config := config) : Result :=
  aluOperand c .sub .mem s

/-- R115: `SUB A`, opcode 0x97. -/
def execSubA (s : State) (c : Config := config) : Result :=
  aluOperand c .sub (.reg .a) s

/-- R116: `SBB B`, opcode 0x98. -/
def execSbbB (s : State) (c : Config := config) : Result :=
  aluOperand c .sbb (.reg .b) s

/-- R116: `SBB C`, opcode 0x99. -/
def execSbbC (s : State) (c : Config := config) : Result :=
  aluOperand c .sbb (.reg .c) s

/-- R116: `SBB D`, opcode 0x9A. -/
def execSbbD (s : State) (c : Config := config) : Result :=
  aluOperand c .sbb (.reg .d) s

/-- R116: `SBB E`, opcode 0x9B. -/
def execSbbE (s : State) (c : Config := config) : Result :=
  aluOperand c .sbb (.reg .e) s

/-- R116: `SBB H`, opcode 0x9C. -/
def execSbbH (s : State) (c : Config := config) : Result :=
  aluOperand c .sbb (.reg .h) s

/-- R116: `SBB L`, opcode 0x9D. -/
def execSbbL (s : State) (c : Config := config) : Result :=
  aluOperand c .sbb (.reg .l) s

/-- R116: `SBB M`, opcode 0x9E. -/
def execSbbM (s : State) (c : Config := config) : Result :=
  aluOperand c .sbb .mem s

/-- R116: `SBB A`, opcode 0x9F. -/
def execSbbA (s : State) (c : Config := config) : Result :=
  aluOperand c .sbb (.reg .a) s

/-- R117: `ANA B`, opcode 0xA0. -/
def execAnaB (s : State) (c : Config := config) : Result :=
  aluOperand c .ana (.reg .b) s

/-- R117: `ANA C`, opcode 0xA1. -/
def execAnaC (s : State) (c : Config := config) : Result :=
  aluOperand c .ana (.reg .c) s

/-- R117: `ANA D`, opcode 0xA2. -/
def execAnaD (s : State) (c : Config := config) : Result :=
  aluOperand c .ana (.reg .d) s

/-- R117: `ANA E`, opcode 0xA3. -/
def execAnaE (s : State) (c : Config := config) : Result :=
  aluOperand c .ana (.reg .e) s

/-- R117: `ANA H`, opcode 0xA4. -/
def execAnaH (s : State) (c : Config := config) : Result :=
  aluOperand c .ana (.reg .h) s

/-- R117: `ANA L`, opcode 0xA5. -/
def execAnaL (s : State) (c : Config := config) : Result :=
  aluOperand c .ana (.reg .l) s

/-- R117: `ANA M`, opcode 0xA6. -/
def execAnaM (s : State) (c : Config := config) : Result :=
  aluOperand c .ana .mem s

/-- R117: `ANA A`, opcode 0xA7. -/
def execAnaA (s : State) (c : Config := config) : Result :=
  aluOperand c .ana (.reg .a) s

/-- R118: `ORA B`, opcode 0xB0. -/
def execOraB (s : State) (c : Config := config) : Result :=
  aluOperand c .ora (.reg .b) s

/-- R118: `ORA C`, opcode 0xB1. -/
def execOraC (s : State) (c : Config := config) : Result :=
  aluOperand c .ora (.reg .c) s

/-- R118: `ORA D`, opcode 0xB2. -/
def execOraD (s : State) (c : Config := config) : Result :=
  aluOperand c .ora (.reg .d) s

/-- R118: `ORA E`, opcode 0xB3. -/
def execOraE (s : State) (c : Config := config) : Result :=
  aluOperand c .ora (.reg .e) s

/-- R118: `ORA H`, opcode 0xB4. -/
def execOraH (s : State) (c : Config := config) : Result :=
  aluOperand c .ora (.reg .h) s

/-- R118: `ORA L`, opcode 0xB5. -/
def execOraL (s : State) (c : Config := config) : Result :=
  aluOperand c .ora (.reg .l) s

/-- R118: `ORA M`, opcode 0xB6. -/
def execOraM (s : State) (c : Config := config) : Result :=
  aluOperand c .ora .mem s

/-- R118: `ORA A`, opcode 0xB7. -/
def execOraA (s : State) (c : Config := config) : Result :=
  aluOperand c .ora (.reg .a) s

/-- R119: `XRA B`, opcode 0xA8. -/
def execXraB (s : State) (c : Config := config) : Result :=
  aluOperand c .xra (.reg .b) s

/-- R119: `XRA C`, opcode 0xA9. -/
def execXraC (s : State) (c : Config := config) : Result :=
  aluOperand c .xra (.reg .c) s

/-- R119: `XRA D`, opcode 0xAA. -/
def execXraD (s : State) (c : Config := config) : Result :=
  aluOperand c .xra (.reg .d) s

/-- R119: `XRA E`, opcode 0xAB. -/
def execXraE (s : State) (c : Config := config) : Result :=
  aluOperand c .xra (.reg .e) s

/-- R119: `XRA H`, opcode 0xAC. -/
def execXraH (s : State) (c : Config := config) : Result :=
  aluOperand c .xra (.reg .h) s

/-- R119: `XRA L`, opcode 0xAD. -/
def execXraL (s : State) (c : Config := config) : Result :=
  aluOperand c .xra (.reg .l) s

/-- R119: `XRA M`, opcode 0xAE. -/
def execXraM (s : State) (c : Config := config) : Result :=
  aluOperand c .xra .mem s

/-- R119: `XRA A`, opcode 0xAF. -/
def execXraA (s : State) (c : Config := config) : Result :=
  aluOperand c .xra (.reg .a) s

/-- R120: `ADI d8`, opcode 0xC6. -/
def execAdi (d8 : Byte) (s : State) (c : Config := config) : Result :=
  aluImmediateOp c .add d8 s

/-- R121: `ACI d8`, opcode 0xCE. -/
def execAci (d8 : Byte) (s : State) (c : Config := config) : Result :=
  aluImmediateOp c .adc d8 s

/-- R122: `SUI d8`, opcode 0xD6. -/
def execSui (d8 : Byte) (s : State) (c : Config := config) : Result :=
  aluImmediateOp c .sub d8 s

/-- R123: `SBI d8`, opcode 0xDE. -/
def execSbi (d8 : Byte) (s : State) (c : Config := config) : Result :=
  aluImmediateOp c .sbb d8 s

/-- R124: `ANI d8`, opcode 0xE6. -/
def execAni (d8 : Byte) (s : State) (c : Config := config) : Result :=
  aluImmediateOp c .ana d8 s

/-- R125: `ORI d8`, opcode 0xF6. -/
def execOri (d8 : Byte) (s : State) (c : Config := config) : Result :=
  aluImmediateOp c .ora d8 s

/-- R126: `XRI d8`, opcode 0xEE. -/
def execXri (d8 : Byte) (s : State) (c : Config := config) : Result :=
  aluImmediateOp c .xra d8 s

end Sys2Proof.Machine
end

