-- ==== Sys2Proof/Machine/Control.lean ====
section
/-! DEFINITION. `NOP` and `HLT` (spec/40_fetch_decode_execute.md). Every meaning runs in the state the
opcode fetch leaves: `PC` is the address after the opcode byte (R71). -/

namespace Sys2Proof.Machine

/-- R78: nothing beyond the opcode fetch. -/
def execNop (s : State) : Result :=
  .next s

/-- R79: `RUN <- 0`. The `Service` phase of the step still runs. -/
def execHlt (s : State) : Result :=
  .next { s with run := false }

end Sys2Proof.Machine
end

