-- ==== Sys2Proof/Machine/ControlFlow.lean ====
section
/-! DEFINITION. The control-transfer instructions `JMP RET RST` (spec/43_control_flow.md), all of them
unconditional (R145). The meanings of `RST` take the configuration (R5), which holds the vector spacing, as their
last argument, by default the one this model runs with. -/

namespace Sys2Proof.Machine

/-- R141: `lo8 <- Fetch(); hi8 <- Fetch(); PC <- {hi8, lo8}`. -/
def execJmp (a16 : Word) (s : State) : Result :=
  operandWord s fun t => .next { t with pc := a16 }

/-- R142: `PC <- Pop16()`. -/
def execRet (s : State) : Result :=
  .next (returnFromStack s)

/-- R143: `RST 0`, opcode 0xC7. -/
def execRst0 (s : State) (c : Config := config) : Result :=
  .next (restart (restartVector c 0) s)

/-- R143: `RST 1`, opcode 0xCF. -/
def execRst1 (s : State) (c : Config := config) : Result :=
  .next (restart (restartVector c 1) s)

/-- R143: `RST 2`, opcode 0xD7. -/
def execRst2 (s : State) (c : Config := config) : Result :=
  .next (restart (restartVector c 2) s)

/-- R143: `RST 3`, opcode 0xDF. -/
def execRst3 (s : State) (c : Config := config) : Result :=
  .next (restart (restartVector c 3) s)

/-- R143: `RST 4`, opcode 0xE7. -/
def execRst4 (s : State) (c : Config := config) : Result :=
  .next (restart (restartVector c 4) s)

/-- R143: `RST 5`, opcode 0xEF. -/
def execRst5 (s : State) (c : Config := config) : Result :=
  .next (restart (restartVector c 5) s)

/-- R143: `RST 6`, opcode 0xF7. -/
def execRst6 (s : State) (c : Config := config) : Result :=
  .next (restart (restartVector c 6) s)

/-- R143: `RST 7`, opcode 0xFF. -/
def execRst7 (s : State) (c : Config := config) : Result :=
  .next (restart (restartVector c 7) s)

end Sys2Proof.Machine
end

