-- ==== Sys2Proof/Machine/InputOutput.lean ====
section
/-! DEFINITION. The I/O and interrupt-control instructions `IN OUT EI DI SIM`
(spec/44_io_and_interrupt_control.md). No instruction is privileged (R160, R185). -/

namespace Sys2Proof.Machine

/-- R155: `p <- Fetch(); R[A] <- IORead(p)`; `F` is unchanged. -/
def execInPort (p8 : Byte) (s : State) : Result :=
  operandByte s fun t => .next (setReg .a (ioRead p8 t).1 (ioRead p8 t).2)

/-- R156: `p <- Fetch(); IOWrite(p, R[A])`. -/
def execOutPort (p8 : Byte) (s : State) : Result :=
  operandByte s fun t => .next (ioWrite p8 (getReg .a t) t)

/-- R157: `IE <- 1`, at once. -/
def execEi (s : State) : Result :=
  .next { s with ie := true }

/-- R158: `IE <- 0`, at once. `PENDING` stays. -/
def execDi (s : State) : Result :=
  .next { s with ie := false }

/-- R159: `if R[A][3] == 1: MASK <- R[A][2:0]`; `A[7:4]` are ignored, `A` itself is unchanged. -/
def execSim (s : State) : Result :=
  .next { s with mask := if s.a.getLsbD 3 then s.a.extractLsb' 0 3 else s.mask }

end Sys2Proof.Machine
end

