-- ==== Sys2Proof/Machine/Transfer.lean ====
section
/-! DEFINITION. The register-transfer instructions `MVI LXI MOV PUSH POP` (spec/41_register_transfer.md):
first the shared operations, one per rule, then one meaning per instruction. None of them reads or
changes a flag, but for `POP PSW`, which loads `F` as data (R16). -/

namespace Sys2Proof.Machine

/-- R90: `v <- Fetch(); R[REG8[ddd]] <- v`. -/
def mviRegister (r : Reg) (d8 : Byte) (s : State) : Result :=
  operandByte s fun t => .next (setReg r d8 t)

/-- R91: `v <- Fetch(); MemWrite({R[H], R[L]}, 1, v)`. -/
def mviMemory (d8 : Byte) (s : State) : Result :=
  operandByte s fun t => .next (wrOp8 .mem d8 t)

/-- R92: both bytes are fetched, then the pair is written. -/
def lxiPair (p : Pair) (d16 : Word) (s : State) : Result :=
  operandWord s fun t => .next (wrPair p d16 t)

/-- R92: both bytes are fetched, then `SP` is written. -/
def lxiStackPointer (d16 : Word) (s : State) : Result :=
  operandWord s fun t => .next { t with sp := d16 }

/-- R93: `R[REG8[ddd]] <- R[REG8[sss]]`. -/
def movRegister (dest source : Reg) (s : State) : Result :=
  .next (setReg dest (getReg source s) s)

/-- R94: `v <- MemRead({R[H], R[L]}, 1); R[REG8[ddd]] <- v`; the address is formed before the write. -/
def movFromMemory (dest : Reg) (s : State) : Result :=
  .next (setReg dest (rdOp8 .mem s).1 (rdOp8 .mem s).2)

/-- R95: `MemWrite({R[H], R[L]}, 1, R[REG8[sss]])`. -/
def movToMemory (source : Reg) (s : State) : Result :=
  .next (wrOp8 .mem (getReg source s) s)

/-- R99: `Push16({R[HIGHP[pp]], R[LOWP[pp]]})`. -/
def pushPairOp (p : Pair) (s : State) : Result :=
  .next (push16 (rdPair p s) s)

/-- R100: `w <- Pop16(); R[HIGHP[pp]] <- hi(w); R[LOWP[pp]] <- lo(w)`. -/
def popPairOp (p : Pair) (s : State) : Result :=
  .next (wrPair p (pop16 s).1 (pop16 s).2)

/-- R90: `MVI B,d8`, opcode 0x06. -/
def execMviB (d8 : Byte) (s : State) : Result :=
  mviRegister .b d8 s

/-- R90: `MVI C,d8`, opcode 0x0E. -/
def execMviC (d8 : Byte) (s : State) : Result :=
  mviRegister .c d8 s

/-- R90: `MVI D,d8`, opcode 0x16. -/
def execMviD (d8 : Byte) (s : State) : Result :=
  mviRegister .d d8 s

/-- R90: `MVI E,d8`, opcode 0x1E. -/
def execMviE (d8 : Byte) (s : State) : Result :=
  mviRegister .e d8 s

/-- R90: `MVI H,d8`, opcode 0x26. -/
def execMviH (d8 : Byte) (s : State) : Result :=
  mviRegister .h d8 s

/-- R90: `MVI L,d8`, opcode 0x2E. -/
def execMviL (d8 : Byte) (s : State) : Result :=
  mviRegister .l d8 s

/-- R91: `MVI M,d8`, opcode 0x36. -/
def execMviM (d8 : Byte) (s : State) : Result :=
  mviMemory d8 s

/-- R90: `MVI A,d8`, opcode 0x3E. -/
def execMviA (d8 : Byte) (s : State) : Result :=
  mviRegister .a d8 s

/-- R92: `LXI B,d16`, opcode 0x01. -/
def execLxiB (d16 : Word) (s : State) : Result :=
  lxiPair .bc d16 s

/-- R92: `LXI D,d16`, opcode 0x11. -/
def execLxiD (d16 : Word) (s : State) : Result :=
  lxiPair .de d16 s

/-- R92: `LXI H,d16`, opcode 0x21. -/
def execLxiH (d16 : Word) (s : State) : Result :=
  lxiPair .hl d16 s

/-- R92: `LXI SP,d16`, opcode 0x31. -/
def execLxiSP (d16 : Word) (s : State) : Result :=
  lxiStackPointer d16 s

/-- R93: `MOV B,B`, opcode 0x40. -/
def execMovBB (s : State) : Result :=
  movRegister .b .b s

/-- R93: `MOV B,C`, opcode 0x41. -/
def execMovBC (s : State) : Result :=
  movRegister .b .c s

/-- R93: `MOV B,D`, opcode 0x42. -/
def execMovBD (s : State) : Result :=
  movRegister .b .d s

/-- R93: `MOV B,E`, opcode 0x43. -/
def execMovBE (s : State) : Result :=
  movRegister .b .e s

/-- R93: `MOV B,H`, opcode 0x44. -/
def execMovBH (s : State) : Result :=
  movRegister .b .h s

/-- R93: `MOV B,L`, opcode 0x45. -/
def execMovBL (s : State) : Result :=
  movRegister .b .l s

/-- R94: `MOV B,M`, opcode 0x46. -/
def execMovBM (s : State) : Result :=
  movFromMemory .b s

/-- R93: `MOV B,A`, opcode 0x47. -/
def execMovBA (s : State) : Result :=
  movRegister .b .a s

/-- R93: `MOV C,B`, opcode 0x48. -/
def execMovCB (s : State) : Result :=
  movRegister .c .b s

/-- R93: `MOV C,C`, opcode 0x49. -/
def execMovCC (s : State) : Result :=
  movRegister .c .c s

/-- R93: `MOV C,D`, opcode 0x4A. -/
def execMovCD (s : State) : Result :=
  movRegister .c .d s

/-- R93: `MOV C,E`, opcode 0x4B. -/
def execMovCE (s : State) : Result :=
  movRegister .c .e s

/-- R93: `MOV C,H`, opcode 0x4C. -/
def execMovCH (s : State) : Result :=
  movRegister .c .h s

/-- R93: `MOV C,L`, opcode 0x4D. -/
def execMovCL (s : State) : Result :=
  movRegister .c .l s

/-- R94: `MOV C,M`, opcode 0x4E. -/
def execMovCM (s : State) : Result :=
  movFromMemory .c s

/-- R93: `MOV C,A`, opcode 0x4F. -/
def execMovCA (s : State) : Result :=
  movRegister .c .a s

/-- R93: `MOV D,B`, opcode 0x50. -/
def execMovDB (s : State) : Result :=
  movRegister .d .b s

/-- R93: `MOV D,C`, opcode 0x51. -/
def execMovDC (s : State) : Result :=
  movRegister .d .c s

/-- R93: `MOV D,D`, opcode 0x52. -/
def execMovDD (s : State) : Result :=
  movRegister .d .d s

/-- R93: `MOV D,E`, opcode 0x53. -/
def execMovDE (s : State) : Result :=
  movRegister .d .e s

/-- R93: `MOV D,H`, opcode 0x54. -/
def execMovDH (s : State) : Result :=
  movRegister .d .h s

/-- R93: `MOV D,L`, opcode 0x55. -/
def execMovDL (s : State) : Result :=
  movRegister .d .l s

/-- R94: `MOV D,M`, opcode 0x56. -/
def execMovDM (s : State) : Result :=
  movFromMemory .d s

/-- R93: `MOV D,A`, opcode 0x57. -/
def execMovDA (s : State) : Result :=
  movRegister .d .a s

/-- R93: `MOV E,B`, opcode 0x58. -/
def execMovEB (s : State) : Result :=
  movRegister .e .b s

/-- R93: `MOV E,C`, opcode 0x59. -/
def execMovEC (s : State) : Result :=
  movRegister .e .c s

/-- R93: `MOV E,D`, opcode 0x5A. -/
def execMovED (s : State) : Result :=
  movRegister .e .d s

/-- R93: `MOV E,E`, opcode 0x5B. -/
def execMovEE (s : State) : Result :=
  movRegister .e .e s

/-- R93: `MOV E,H`, opcode 0x5C. -/
def execMovEH (s : State) : Result :=
  movRegister .e .h s

/-- R93: `MOV E,L`, opcode 0x5D. -/
def execMovEL (s : State) : Result :=
  movRegister .e .l s

/-- R94: `MOV E,M`, opcode 0x5E. -/
def execMovEM (s : State) : Result :=
  movFromMemory .e s

/-- R93: `MOV E,A`, opcode 0x5F. -/
def execMovEA (s : State) : Result :=
  movRegister .e .a s

/-- R93: `MOV H,B`, opcode 0x60. -/
def execMovHB (s : State) : Result :=
  movRegister .h .b s

/-- R93: `MOV H,C`, opcode 0x61. -/
def execMovHC (s : State) : Result :=
  movRegister .h .c s

/-- R93: `MOV H,D`, opcode 0x62. -/
def execMovHD (s : State) : Result :=
  movRegister .h .d s

/-- R93: `MOV H,E`, opcode 0x63. -/
def execMovHE (s : State) : Result :=
  movRegister .h .e s

/-- R93: `MOV H,H`, opcode 0x64. -/
def execMovHH (s : State) : Result :=
  movRegister .h .h s

/-- R93: `MOV H,L`, opcode 0x65. -/
def execMovHL (s : State) : Result :=
  movRegister .h .l s

/-- R94: `MOV H,M`, opcode 0x66. -/
def execMovHM (s : State) : Result :=
  movFromMemory .h s

/-- R93: `MOV H,A`, opcode 0x67. -/
def execMovHA (s : State) : Result :=
  movRegister .h .a s

/-- R93: `MOV L,B`, opcode 0x68. -/
def execMovLB (s : State) : Result :=
  movRegister .l .b s

/-- R93: `MOV L,C`, opcode 0x69. -/
def execMovLC (s : State) : Result :=
  movRegister .l .c s

/-- R93: `MOV L,D`, opcode 0x6A. -/
def execMovLD (s : State) : Result :=
  movRegister .l .d s

/-- R93: `MOV L,E`, opcode 0x6B. -/
def execMovLE (s : State) : Result :=
  movRegister .l .e s

/-- R93: `MOV L,H`, opcode 0x6C. -/
def execMovLH (s : State) : Result :=
  movRegister .l .h s

/-- R93: `MOV L,L`, opcode 0x6D. -/
def execMovLL (s : State) : Result :=
  movRegister .l .l s

/-- R94: `MOV L,M`, opcode 0x6E. -/
def execMovLM (s : State) : Result :=
  movFromMemory .l s

/-- R93: `MOV L,A`, opcode 0x6F. -/
def execMovLA (s : State) : Result :=
  movRegister .l .a s

/-- R95: `MOV M,B`, opcode 0x70. -/
def execMovMB (s : State) : Result :=
  movToMemory .b s

/-- R95: `MOV M,C`, opcode 0x71. -/
def execMovMC (s : State) : Result :=
  movToMemory .c s

/-- R95: `MOV M,D`, opcode 0x72. -/
def execMovMD (s : State) : Result :=
  movToMemory .d s

/-- R95: `MOV M,E`, opcode 0x73. -/
def execMovME (s : State) : Result :=
  movToMemory .e s

/-- R95: `MOV M,H`, opcode 0x74. -/
def execMovMH (s : State) : Result :=
  movToMemory .h s

/-- R95: `MOV M,L`, opcode 0x75. -/
def execMovML (s : State) : Result :=
  movToMemory .l s

/-- R95: `MOV M,A`, opcode 0x77. -/
def execMovMA (s : State) : Result :=
  movToMemory .a s

/-- R93: `MOV A,B`, opcode 0x78. -/
def execMovAB (s : State) : Result :=
  movRegister .a .b s

/-- R93: `MOV A,C`, opcode 0x79. -/
def execMovAC (s : State) : Result :=
  movRegister .a .c s

/-- R93: `MOV A,D`, opcode 0x7A. -/
def execMovAD (s : State) : Result :=
  movRegister .a .d s

/-- R93: `MOV A,E`, opcode 0x7B. -/
def execMovAE (s : State) : Result :=
  movRegister .a .e s

/-- R93: `MOV A,H`, opcode 0x7C. -/
def execMovAH (s : State) : Result :=
  movRegister .a .h s

/-- R93: `MOV A,L`, opcode 0x7D. -/
def execMovAL (s : State) : Result :=
  movRegister .a .l s

/-- R94: `MOV A,M`, opcode 0x7E. -/
def execMovAM (s : State) : Result :=
  movFromMemory .a s

/-- R93: `MOV A,A`, opcode 0x7F. -/
def execMovAA (s : State) : Result :=
  movRegister .a .a s

/-- R99: `PUSH B`, opcode 0xC5. -/
def execPushB (s : State) : Result :=
  pushPairOp .bc s

/-- R99: `PUSH D`, opcode 0xD5. -/
def execPushD (s : State) : Result :=
  pushPairOp .de s

/-- R99: `PUSH H`, opcode 0xE5. -/
def execPushH (s : State) : Result :=
  pushPairOp .hl s

/-- R99: `PUSH PSW`, opcode 0xF5. -/
def execPushPSW (s : State) : Result :=
  pushPairOp .af s

/-- R100: `POP B`, opcode 0xC1. -/
def execPopB (s : State) : Result :=
  popPairOp .bc s

/-- R100: `POP D`, opcode 0xD1. -/
def execPopD (s : State) : Result :=
  popPairOp .de s

/-- R100: `POP H`, opcode 0xE1. -/
def execPopH (s : State) : Result :=
  popPairOp .hl s

/-- R100: `POP PSW`, opcode 0xF1. -/
def execPopPSW (s : State) : Result :=
  popPairOp .af s

end Sys2Proof.Machine
end

