-- ==== Sys2Proof/WellFormed.lean ====
section
/-! DEFINITION. Which assembler statements are well formed (spec/30_encoding.md R61, R50, R52), and so
which instructions. An `Instr` carries its operands as Bytes and Words, so every `Instr` is well formed;
the checks are on what an assembler may be given. -/

namespace Sys2Proof

/-- R61: the pairs `LXI` may name, `B D H SP`. -/
def PairName.isLoadable : PairName → Bool
  | .psw => false
  | .b | .d | .h | .sp => true

/-- R61: the pairs `PUSH` and `POP` may name, `B D H PSW`. -/
def PairName.isStackable : PairName → Bool
  | .sp => false
  | .b | .d | .h | .psw => true

/-- R61: a statement is well formed when its numbers fit their fields (R52), its pair is one the
mnemonic takes, a restart index is in 0..7, and a `MOV` does not name `M` twice. -/
def Asm.wellFormed : Asm → Bool
  | .mvi _ d8 => decide (d8 < 256)
  | .lxi pair d16 => pair.isLoadable && decide (d16 < 65536)
  | .mov dest source => !(dest == .mem && source == .mem)
  | .push pair => pair.isStackable
  | .pop pair => pair.isStackable
  | .aluImmediate _ d8 => decide (d8 < 256)
  | .jmp a16 => decide (a16 < 65536)
  | .rst n => decide (n < 8)
  | .inPort p8 => decide (p8 < 256)
  | .outPort p8 => decide (p8 < 256)
  | .nop | .hlt | .alu _ _ | .ret | .ei | .di | .sim => true

/-- An instruction is well formed when its spelling is. -/
def Instr.wellFormed (i : Instr) : Bool := i.asm.wellFormed

end Sys2Proof
end

