-- ==== Sys2Proof/Decode.lean ====
section
/-! DEFINITION. The opcode multiplexer (spec/30_encoding.md R50 to R58), total on any bytes: the five
steps of R55 in their order, the fields of R51 and R96, the range-offset blocks of R57 with `ORA_BASE`
a parameter. An illegal byte is answered with none; the rejection by name is the `InvalidOpcode` record
that carries it (R171). After the decoder, the encoder, written from the map of R56, and the assembler
of R61. -/

namespace Sys2Proof

/-- R12: `REG8`, the fixed operand order. -/
def reg8 : List Operand :=
  [.reg .b, .reg .c, .reg .d, .reg .e, .reg .h, .reg .l, .mem, .reg .a]

/-- R12: the operand of a 3-bit code. -/
def operandOfCode (code : Nat) : Option Operand := reg8[code]?

/-- R57: the register and `M` form of an ALU family. -/
def aluRegisterInstr : AluFamily → Operand → Instr
  | .add, .reg .b => .addB
  | .add, .reg .c => .addC
  | .add, .reg .d => .addD
  | .add, .reg .e => .addE
  | .add, .reg .h => .addH
  | .add, .reg .l => .addL
  | .add, .mem => .addM
  | .add, .reg .a => .addA
  | .adc, .reg .b => .adcB
  | .adc, .reg .c => .adcC
  | .adc, .reg .d => .adcD
  | .adc, .reg .e => .adcE
  | .adc, .reg .h => .adcH
  | .adc, .reg .l => .adcL
  | .adc, .mem => .adcM
  | .adc, .reg .a => .adcA
  | .sub, .reg .b => .subB
  | .sub, .reg .c => .subC
  | .sub, .reg .d => .subD
  | .sub, .reg .e => .subE
  | .sub, .reg .h => .subH
  | .sub, .reg .l => .subL
  | .sub, .mem => .subM
  | .sub, .reg .a => .subA
  | .sbb, .reg .b => .sbbB
  | .sbb, .reg .c => .sbbC
  | .sbb, .reg .d => .sbbD
  | .sbb, .reg .e => .sbbE
  | .sbb, .reg .h => .sbbH
  | .sbb, .reg .l => .sbbL
  | .sbb, .mem => .sbbM
  | .sbb, .reg .a => .sbbA
  | .ana, .reg .b => .anaB
  | .ana, .reg .c => .anaC
  | .ana, .reg .d => .anaD
  | .ana, .reg .e => .anaE
  | .ana, .reg .h => .anaH
  | .ana, .reg .l => .anaL
  | .ana, .mem => .anaM
  | .ana, .reg .a => .anaA
  | .ora, .reg .b => .oraB
  | .ora, .reg .c => .oraC
  | .ora, .reg .d => .oraD
  | .ora, .reg .e => .oraE
  | .ora, .reg .h => .oraH
  | .ora, .reg .l => .oraL
  | .ora, .mem => .oraM
  | .ora, .reg .a => .oraA
  | .xra, .reg .b => .xraB
  | .xra, .reg .c => .xraC
  | .xra, .reg .d => .xraD
  | .xra, .reg .e => .xraE
  | .xra, .reg .h => .xraH
  | .xra, .reg .l => .xraL
  | .xra, .mem => .xraM
  | .xra, .reg .a => .xraA

/-- R55 step 1: the immediate form of an ALU family. -/
def aluImmediateInstr : AluFamily → Byte → Instr
  | .add, d8 => .adi d8
  | .adc, d8 => .aci d8
  | .sub, d8 => .sui d8
  | .sbb, d8 => .sbi d8
  | .ana, d8 => .ani d8
  | .ora, d8 => .ori d8
  | .xra, d8 => .xri d8

/-- R93: `MOV d, s` between registers. -/
def movRegisterInstr : Reg → Reg → Instr
  | .b, .b => .movBB
  | .b, .c => .movBC
  | .b, .d => .movBD
  | .b, .e => .movBE
  | .b, .h => .movBH
  | .b, .l => .movBL
  | .b, .a => .movBA
  | .c, .b => .movCB
  | .c, .c => .movCC
  | .c, .d => .movCD
  | .c, .e => .movCE
  | .c, .h => .movCH
  | .c, .l => .movCL
  | .c, .a => .movCA
  | .d, .b => .movDB
  | .d, .c => .movDC
  | .d, .d => .movDD
  | .d, .e => .movDE
  | .d, .h => .movDH
  | .d, .l => .movDL
  | .d, .a => .movDA
  | .e, .b => .movEB
  | .e, .c => .movEC
  | .e, .d => .movED
  | .e, .e => .movEE
  | .e, .h => .movEH
  | .e, .l => .movEL
  | .e, .a => .movEA
  | .h, .b => .movHB
  | .h, .c => .movHC
  | .h, .d => .movHD
  | .h, .e => .movHE
  | .h, .h => .movHH
  | .h, .l => .movHL
  | .h, .a => .movHA
  | .l, .b => .movLB
  | .l, .c => .movLC
  | .l, .d => .movLD
  | .l, .e => .movLE
  | .l, .h => .movLH
  | .l, .l => .movLL
  | .l, .a => .movLA
  | .a, .b => .movAB
  | .a, .c => .movAC
  | .a, .d => .movAD
  | .a, .e => .movAE
  | .a, .h => .movAH
  | .a, .l => .movAL
  | .a, .a => .movAA

/-- R94: `MOV d, M`. -/
def movFromMemoryInstr : Reg → Instr
  | .b => .movBM
  | .c => .movCM
  | .d => .movDM
  | .e => .movEM
  | .h => .movHM
  | .l => .movLM
  | .a => .movAM

/-- R95: `MOV M, s`. -/
def movToMemoryInstr : Reg → Instr
  | .b => .movMB
  | .c => .movMC
  | .d => .movMD
  | .e => .movME
  | .h => .movMH
  | .l => .movML
  | .a => .movMA

/-- R96: the move family. `MOV M, M` does not exist: its place is `HLT`'s. -/
def movInstr : Operand → Operand → Option Instr
  | .reg dest, .reg source => some (movRegisterInstr dest source)
  | .reg dest, .mem => some (movFromMemoryInstr dest)
  | .mem, .reg source => some (movToMemoryInstr source)
  | .mem, .mem => none

/-- R90: `MVI r, d8` into a register. -/
def mviRegisterInstr : Reg → Byte → Instr
  | .b, d8 => .mviB d8
  | .c, d8 => .mviC d8
  | .d, d8 => .mviD d8
  | .e, d8 => .mviE d8
  | .h, d8 => .mviH d8
  | .l, d8 => .mviL d8
  | .a, d8 => .mviA d8

/-- R90, R91: `MVI` into any operand. -/
def mviInstr : Operand → Byte → Instr
  | .reg r, d8 => mviRegisterInstr r d8
  | .mem, d8 => .mviM d8

/-- R92: `LXI rp, d16`; there is no `LXI PSW`. -/
def lxiInstr : PairName → Word → Option Instr
  | .b, d16 => some (.lxiB d16)
  | .d, d16 => some (.lxiD d16)
  | .h, d16 => some (.lxiH d16)
  | .sp, d16 => some (.lxiSP d16)
  | .psw, _ => none

/-- R99: `PUSH` of a pair. -/
def pushInstr : Pair → Instr
  | .bc => .pushB
  | .de => .pushD
  | .hl => .pushH
  | .af => .pushPSW

/-- R100: `POP` of a pair. -/
def popInstr : Pair → Instr
  | .bc => .popB
  | .de => .popD
  | .hl => .popH
  | .af => .popPSW

/-- R143: `RST n`. -/
def rstInstr (n : Fin 8) : Instr :=
  match n with
  | 0 => .rst0
  | 1 => .rst1
  | 2 => .rst2
  | 3 => .rst3
  | 4 => .rst4
  | 5 => .rst5
  | 6 => .rst6
  | 7 => .rst7

/-- R55 step 1: the fixed single-opcode table. `lo` and `hi` are the bytes after the opcode; `d8`, `p8`
are the second byte, `d16`, `a16` are `{hi, lo}` (R52). -/
def singleTable : List (Byte × (Byte → Byte → Instr)) :=
  [ (0x00, fun _ _ => .nop),
    (0x76, fun _ _ => .hlt),
    (0x06, fun lo _ => .mviB lo), (0x0E, fun lo _ => .mviC lo), (0x16, fun lo _ => .mviD lo),
    (0x1E, fun lo _ => .mviE lo), (0x26, fun lo _ => .mviH lo), (0x2E, fun lo _ => .mviL lo),
    (0x36, fun lo _ => .mviM lo), (0x3E, fun lo _ => .mviA lo),
    (0x01, fun lo hi => .lxiB (Machine.joinBytes hi lo)),
    (0x11, fun lo hi => .lxiD (Machine.joinBytes hi lo)),
    (0x21, fun lo hi => .lxiH (Machine.joinBytes hi lo)),
    (0x31, fun lo hi => .lxiSP (Machine.joinBytes hi lo)),
    (0xC5, fun _ _ => .pushB), (0xD5, fun _ _ => .pushD), (0xE5, fun _ _ => .pushH),
    (0xF5, fun _ _ => .pushPSW),
    (0xC1, fun _ _ => .popB), (0xD1, fun _ _ => .popD), (0xE1, fun _ _ => .popH),
    (0xF1, fun _ _ => .popPSW),
    (0xDB, fun lo _ => .inPort lo), (0xD3, fun lo _ => .outPort lo),
    (0xFB, fun _ _ => .ei), (0xF3, fun _ _ => .di), (0x30, fun _ _ => .sim),
    (0xC9, fun _ _ => .ret),
    (0xC3, fun lo hi => .jmp (Machine.joinBytes hi lo)),
    (0xC6, fun lo _ => .adi lo), (0xCE, fun lo _ => .aci lo), (0xD6, fun lo _ => .sui lo),
    (0xDE, fun lo _ => .sbi lo), (0xE6, fun lo _ => .ani lo), (0xEE, fun lo _ => .xri lo),
    (0xF6, fun lo _ => .ori lo) ]

/-- R55 step 1: exact match against the single-opcode table. -/
def decodeSingle (op lo hi : Byte) : Option Instr :=
  (singleTable.lookup op).map fun make => make lo hi

/-- R55 step 2, R96: the move-family block `0x40–0x7F`; the block index selects the destination, the
offset inside the block the source. -/
def decodeMove (op : Byte) : Option Instr :=
  if 0x40 ≤ op.toNat ∧ op.toNat < 0x80 then
    match operandOfCode ((op.toNat - 0x40) / 8), operandOfCode ((op.toNat - 0x40) % 8) with
    | some dest, some source => movInstr dest source
    | _, _ => none
  else none

/-- R57: the block bases in the source's checking order. -/
def aluBlocks (c : Config) : List (AluFamily × Byte) :=
  [(.add, 0x80), (.adc, 0x88), (.sub, 0x90), (.sbb, 0x98), (.ana, 0xA0), (.ora, c.oraBase), (.xra, 0xA8)]

/-- R55 step 3: the first family in the list whose test `0 ≤ byte − base < 8` holds. -/
def decodeBlocks : List (AluFamily × Byte) → Byte → Option Instr
  | [], _ => none
  | (family, base) :: rest, op =>
    if base.toNat ≤ op.toNat ∧ op.toNat - base.toNat < 8 then
      (operandOfCode (op.toNat - base.toNat)).map (aluRegisterInstr family)
    else decodeBlocks rest op

/-- R55 step 4, R52: the restart list; the index is the position in it. -/
def restartTable : List (Byte × Fin 8) :=
  [(0xC7, 0), (0xCF, 1), (0xD7, 2), (0xDF, 3), (0xE7, 4), (0xEF, 5), (0xF7, 6), (0xFF, 7)]

/-- R55 step 4: the restart lookup. -/
def decodeRestart (op : Byte) : Option Instr := (restartTable.lookup op).map rstInstr

/-- R55: the five steps in priority order. The opcode byte alone decides; `lo` and `hi`, the bytes
after it, only fill in the operand. -/
def decodeOpcode (c : Config) (op lo hi : Byte) : Option Instr :=
  match decodeSingle op lo hi with
  | some i => some i
  | none =>
    match decodeMove op with
    | some i => some i
    | none =>
      match decodeBlocks (aluBlocks c) op with
      | some i => some i
      | none => decodeRestart op

/-- Decoding from a list of bytes: the instruction and the bytes after it; none where the opcode is
illegal or an operand byte is missing. -/
def decodeWith (c : Config) : List Byte → Option (Instr × List Byte)
  | [] => none
  | op :: rest =>
    match decodeOpcode c op (rest.getD 0 0) (rest.getD 1 0) with
    | none => none
    | some i => if i.length ≤ rest.length + 1 then some (i, rest.drop (i.length - 1)) else none

/-- Decoding with the parameter values of this model. -/
def decode (bytes : List Byte) : Option (Instr × List Byte) := decodeWith Machine.config bytes

/-- R56: the bytes of an instruction, from the opcode map; operand words low byte first (R52, R33). -/
def encode : Instr → List Byte
  | .nop => [0x00]
  | .hlt => [0x76]
  | .mviB d8 => [0x06, d8]
  | .mviC d8 => [0x0E, d8]
  | .mviD d8 => [0x16, d8]
  | .mviE d8 => [0x1E, d8]
  | .mviH d8 => [0x26, d8]
  | .mviL d8 => [0x2E, d8]
  | .mviM d8 => [0x36, d8]
  | .mviA d8 => [0x3E, d8]
  | .lxiB d16 => [0x01, Machine.loByte d16, Machine.hiByte d16]
  | .lxiD d16 => [0x11, Machine.loByte d16, Machine.hiByte d16]
  | .lxiH d16 => [0x21, Machine.loByte d16, Machine.hiByte d16]
  | .lxiSP d16 => [0x31, Machine.loByte d16, Machine.hiByte d16]
  | .movBB => [0x40]
  | .movBC => [0x41]
  | .movBD => [0x42]
  | .movBE => [0x43]
  | .movBH => [0x44]
  | .movBL => [0x45]
  | .movBM => [0x46]
  | .movBA => [0x47]
  | .movCB => [0x48]
  | .movCC => [0x49]
  | .movCD => [0x4A]
  | .movCE => [0x4B]
  | .movCH => [0x4C]
  | .movCL => [0x4D]
  | .movCM => [0x4E]
  | .movCA => [0x4F]
  | .movDB => [0x50]
  | .movDC => [0x51]
  | .movDD => [0x52]
  | .movDE => [0x53]
  | .movDH => [0x54]
  | .movDL => [0x55]
  | .movDM => [0x56]
  | .movDA => [0x57]
  | .movEB => [0x58]
  | .movEC => [0x59]
  | .movED => [0x5A]
  | .movEE => [0x5B]
  | .movEH => [0x5C]
  | .movEL => [0x5D]
  | .movEM => [0x5E]
  | .movEA => [0x5F]
  | .movHB => [0x60]
  | .movHC => [0x61]
  | .movHD => [0x62]
  | .movHE => [0x63]
  | .movHH => [0x64]
  | .movHL => [0x65]
  | .movHM => [0x66]
  | .movHA => [0x67]
  | .movLB => [0x68]
  | .movLC => [0x69]
  | .movLD => [0x6A]
  | .movLE => [0x6B]
  | .movLH => [0x6C]
  | .movLL => [0x6D]
  | .movLM => [0x6E]
  | .movLA => [0x6F]
  | .movMB => [0x70]
  | .movMC => [0x71]
  | .movMD => [0x72]
  | .movME => [0x73]
  | .movMH => [0x74]
  | .movML => [0x75]
  | .movMA => [0x77]
  | .movAB => [0x78]
  | .movAC => [0x79]
  | .movAD => [0x7A]
  | .movAE => [0x7B]
  | .movAH => [0x7C]
  | .movAL => [0x7D]
  | .movAM => [0x7E]
  | .movAA => [0x7F]
  | .pushB => [0xC5]
  | .pushD => [0xD5]
  | .pushH => [0xE5]
  | .pushPSW => [0xF5]
  | .popB => [0xC1]
  | .popD => [0xD1]
  | .popH => [0xE1]
  | .popPSW => [0xF1]
  | .addB => [0x80]
  | .addC => [0x81]
  | .addD => [0x82]
  | .addE => [0x83]
  | .addH => [0x84]
  | .addL => [0x85]
  | .addM => [0x86]
  | .addA => [0x87]
  | .adcB => [0x88]
  | .adcC => [0x89]
  | .adcD => [0x8A]
  | .adcE => [0x8B]
  | .adcH => [0x8C]
  | .adcL => [0x8D]
  | .adcM => [0x8E]
  | .adcA => [0x8F]
  | .subB => [0x90]
  | .subC => [0x91]
  | .subD => [0x92]
  | .subE => [0x93]
  | .subH => [0x94]
  | .subL => [0x95]
  | .subM => [0x96]
  | .subA => [0x97]
  | .sbbB => [0x98]
  | .sbbC => [0x99]
  | .sbbD => [0x9A]
  | .sbbE => [0x9B]
  | .sbbH => [0x9C]
  | .sbbL => [0x9D]
  | .sbbM => [0x9E]
  | .sbbA => [0x9F]
  | .anaB => [0xA0]
  | .anaC => [0xA1]
  | .anaD => [0xA2]
  | .anaE => [0xA3]
  | .anaH => [0xA4]
  | .anaL => [0xA5]
  | .anaM => [0xA6]
  | .anaA => [0xA7]
  | .oraB => [0xB0]
  | .oraC => [0xB1]
  | .oraD => [0xB2]
  | .oraE => [0xB3]
  | .oraH => [0xB4]
  | .oraL => [0xB5]
  | .oraM => [0xB6]
  | .oraA => [0xB7]
  | .xraB => [0xA8]
  | .xraC => [0xA9]
  | .xraD => [0xAA]
  | .xraE => [0xAB]
  | .xraH => [0xAC]
  | .xraL => [0xAD]
  | .xraM => [0xAE]
  | .xraA => [0xAF]
  | .adi d8 => [0xC6, d8]
  | .aci d8 => [0xCE, d8]
  | .sui d8 => [0xD6, d8]
  | .sbi d8 => [0xDE, d8]
  | .ani d8 => [0xE6, d8]
  | .ori d8 => [0xF6, d8]
  | .xri d8 => [0xEE, d8]
  | .jmp a16 => [0xC3, Machine.loByte a16, Machine.hiByte a16]
  | .ret => [0xC9]
  | .rst0 => [0xC7]
  | .rst1 => [0xCF]
  | .rst2 => [0xD7]
  | .rst3 => [0xDF]
  | .rst4 => [0xE7]
  | .rst5 => [0xEF]
  | .rst6 => [0xF7]
  | .rst7 => [0xFF]
  | .inPort p8 => [0xDB, p8]
  | .outPort p8 => [0xD3, p8]
  | .ei => [0xFB]
  | .di => [0xF3]
  | .sim => [0x30]

/-- R61: the pair a stack mnemonic names. -/
def stackPair : PairName → Option Pair
  | .b => some .bc
  | .d => some .de
  | .h => some .hl
  | .psw => some .af
  | .sp => none

/-- The instruction a statement names, its numbers cut to their fields. -/
def Asm.instr : Asm → Option Instr
  | .nop => some .nop
  | .hlt => some .hlt
  | .mvi dest d8 => some (mviInstr dest (BitVec.ofNat 8 d8))
  | .lxi pair d16 => lxiInstr pair (BitVec.ofNat 16 d16)
  | .mov dest source => movInstr dest source
  | .push pair => (stackPair pair).map pushInstr
  | .pop pair => (stackPair pair).map popInstr
  | .alu family source => some (aluRegisterInstr family source)
  | .aluImmediate family d8 => some (aluImmediateInstr family (BitVec.ofNat 8 d8))
  | .jmp a16 => some (.jmp (BitVec.ofNat 16 a16))
  | .ret => some .ret
  | .rst n => if h : n < 8 then some (rstInstr ⟨n, h⟩) else none
  | .inPort p8 => some (.inPort (BitVec.ofNat 8 p8))
  | .outPort p8 => some (.outPort (BitVec.ofNat 8 p8))
  | .ei => some .ei
  | .di => some .di
  | .sim => some .sim

/-- R61: the assembler: a well-formed statement gives its instruction, an ill-formed one none. -/
def Asm.assemble (stmt : Asm) : Option Instr := if stmt.wellFormed then stmt.instr else none

/-- The host's reading of an opcode-table row: the instruction of the bits `w`, of which the row gives
`nbits`, bit 0 the least significant bit of the first byte and a later byte's bits counting on; bits
above `nbits` are 0. -/
def decodeTableWord (nbits w : Nat) : Option Instr :=
  let v := w % 2 ^ nbits
  (decode [BitVec.ofNat 8 v, BitVec.ofNat 8 (v / 256), BitVec.ofNat 8 (v / 65536)]).map Prod.fst

end Sys2Proof
end

