-- ==== Sys2Proof/Machine/Execute.lean ====
section
/-! DEFINITION. The instructions under any configuration (spec/00_scope.md R5): the same meanings as the
dispatch of Sys2Proof/Machine/Dispatch.lean, each given the configuration where it depends on one. With the
configuration of this model it is that dispatch (`exec_eq_execWith`, Sys2Proof/Laws/Exec.lean). -/

namespace Sys2Proof.Machine

/-- R71 step 3: the rule of one instruction, under the configuration `c`. -/
def execWith (c : Config) (i : Instr) (s : State) : Result :=
  match i with
  -- NOP (R78)
  | .nop => execNop s
  -- HLT (R79)
  | .hlt => execHlt s
  -- MVI (R90, R91)
  | .mviB d8 => execMviB d8 s
  | .mviC d8 => execMviC d8 s
  | .mviD d8 => execMviD d8 s
  | .mviE d8 => execMviE d8 s
  | .mviH d8 => execMviH d8 s
  | .mviL d8 => execMviL d8 s
  | .mviM d8 => execMviM d8 s
  | .mviA d8 => execMviA d8 s
  -- LXI (R92)
  | .lxiB d16 => execLxiB d16 s
  | .lxiD d16 => execLxiD d16 s
  | .lxiH d16 => execLxiH d16 s
  | .lxiSP d16 => execLxiSP d16 s
  -- MOV (R93, R94, R95)
  | .movBB => execMovBB s
  | .movBC => execMovBC s
  | .movBD => execMovBD s
  | .movBE => execMovBE s
  | .movBH => execMovBH s
  | .movBL => execMovBL s
  | .movBM => execMovBM s
  | .movBA => execMovBA s
  | .movCB => execMovCB s
  | .movCC => execMovCC s
  | .movCD => execMovCD s
  | .movCE => execMovCE s
  | .movCH => execMovCH s
  | .movCL => execMovCL s
  | .movCM => execMovCM s
  | .movCA => execMovCA s
  | .movDB => execMovDB s
  | .movDC => execMovDC s
  | .movDD => execMovDD s
  | .movDE => execMovDE s
  | .movDH => execMovDH s
  | .movDL => execMovDL s
  | .movDM => execMovDM s
  | .movDA => execMovDA s
  | .movEB => execMovEB s
  | .movEC => execMovEC s
  | .movED => execMovED s
  | .movEE => execMovEE s
  | .movEH => execMovEH s
  | .movEL => execMovEL s
  | .movEM => execMovEM s
  | .movEA => execMovEA s
  | .movHB => execMovHB s
  | .movHC => execMovHC s
  | .movHD => execMovHD s
  | .movHE => execMovHE s
  | .movHH => execMovHH s
  | .movHL => execMovHL s
  | .movHM => execMovHM s
  | .movHA => execMovHA s
  | .movLB => execMovLB s
  | .movLC => execMovLC s
  | .movLD => execMovLD s
  | .movLE => execMovLE s
  | .movLH => execMovLH s
  | .movLL => execMovLL s
  | .movLM => execMovLM s
  | .movLA => execMovLA s
  | .movMB => execMovMB s
  | .movMC => execMovMC s
  | .movMD => execMovMD s
  | .movME => execMovME s
  | .movMH => execMovMH s
  | .movML => execMovML s
  | .movMA => execMovMA s
  | .movAB => execMovAB s
  | .movAC => execMovAC s
  | .movAD => execMovAD s
  | .movAE => execMovAE s
  | .movAH => execMovAH s
  | .movAL => execMovAL s
  | .movAM => execMovAM s
  | .movAA => execMovAA s
  -- PUSH (R99)
  | .pushB => execPushB s
  | .pushD => execPushD s
  | .pushH => execPushH s
  | .pushPSW => execPushPSW s
  -- POP (R100)
  | .popB => execPopB s
  | .popD => execPopD s
  | .popH => execPopH s
  | .popPSW => execPopPSW s
  -- ADD (R113)
  | .addB => execAddB s c
  | .addC => execAddC s c
  | .addD => execAddD s c
  | .addE => execAddE s c
  | .addH => execAddH s c
  | .addL => execAddL s c
  | .addM => execAddM s c
  | .addA => execAddA s c
  -- ADC (R114)
  | .adcB => execAdcB s c
  | .adcC => execAdcC s c
  | .adcD => execAdcD s c
  | .adcE => execAdcE s c
  | .adcH => execAdcH s c
  | .adcL => execAdcL s c
  | .adcM => execAdcM s c
  | .adcA => execAdcA s c
  -- SUB (R115)
  | .subB => execSubB s c
  | .subC => execSubC s c
  | .subD => execSubD s c
  | .subE => execSubE s c
  | .subH => execSubH s c
  | .subL => execSubL s c
  | .subM => execSubM s c
  | .subA => execSubA s c
  -- SBB (R116)
  | .sbbB => execSbbB s c
  | .sbbC => execSbbC s c
  | .sbbD => execSbbD s c
  | .sbbE => execSbbE s c
  | .sbbH => execSbbH s c
  | .sbbL => execSbbL s c
  | .sbbM => execSbbM s c
  | .sbbA => execSbbA s c
  -- ANA (R117)
  | .anaB => execAnaB s c
  | .anaC => execAnaC s c
  | .anaD => execAnaD s c
  | .anaE => execAnaE s c
  | .anaH => execAnaH s c
  | .anaL => execAnaL s c
  | .anaM => execAnaM s c
  | .anaA => execAnaA s c
  -- ORA (R118)
  | .oraB => execOraB s c
  | .oraC => execOraC s c
  | .oraD => execOraD s c
  | .oraE => execOraE s c
  | .oraH => execOraH s c
  | .oraL => execOraL s c
  | .oraM => execOraM s c
  | .oraA => execOraA s c
  -- XRA (R119)
  | .xraB => execXraB s c
  | .xraC => execXraC s c
  | .xraD => execXraD s c
  | .xraE => execXraE s c
  | .xraH => execXraH s c
  | .xraL => execXraL s c
  | .xraM => execXraM s c
  | .xraA => execXraA s c
  -- ADI (R120)
  | .adi d8 => execAdi d8 s c
  -- ACI (R121)
  | .aci d8 => execAci d8 s c
  -- SUI (R122)
  | .sui d8 => execSui d8 s c
  -- SBI (R123)
  | .sbi d8 => execSbi d8 s c
  -- ANI (R124)
  | .ani d8 => execAni d8 s c
  -- ORI (R125)
  | .ori d8 => execOri d8 s c
  -- XRI (R126)
  | .xri d8 => execXri d8 s c
  -- JMP (R141)
  | .jmp a16 => execJmp a16 s
  -- RET (R142)
  | .ret => execRet s
  -- RST (R143)
  | .rst0 => execRst0 s c
  | .rst1 => execRst1 s c
  | .rst2 => execRst2 s c
  | .rst3 => execRst3 s c
  | .rst4 => execRst4 s c
  | .rst5 => execRst5 s c
  | .rst6 => execRst6 s c
  | .rst7 => execRst7 s c
  -- IN (R155)
  | .inPort p8 => execInPort p8 s
  -- OUT (R156)
  | .outPort p8 => execOutPort p8 s
  -- EI (R157)
  | .ei => execEi s
  -- DI (R158)
  | .di => execDi s
  -- SIM (R159)
  | .sim => execSim s

end Sys2Proof.Machine
end

