-- ==== Sys2Proof/Machine/Interrupts.lean ====
section
/-! DEFINITION. What the agents beside the sequencer do (spec/00_scope.md R8), and the interrupt
service: `Request` (spec/60_exceptions.md R175), the `Service` phase's work (R176), `Trap` (R179),
`Reset` (spec/70_reset_and_hazards.md R200), and the events of a phase boundary (R74, U10). -/

namespace Sys2Proof.Machine

/-- R175: `Request(line, tok)`: dropped if the line is masked now, else it becomes the pending request,
over any earlier one. `IE` is not read. -/
def request (line : Fin 3) (token : Option Token) (s : State) : State :=
  if s.mask.getLsbD line.val then s else { s with pending := some ⟨line, token⟩ }

/-- R176: `Service()`: with `IE = 1` and a pending request, disable interrupts, acknowledge, perform
the vector call, clear the record; otherwise nothing. `MASK` is not read. -/
def service (c : Config) (s : State) : State :=
  match s.ie, s.pending with
  | true, some p =>
    { restart (interruptVector c p.line) (emitIntAck p.token { s with ie := false }) with
      pending := none }
  | true, none => s
  | false, _ => s

/-- R179: `Trap()`: a vector call whatever `IE`, `MASK` and `PENDING` hold; it changes none of them. -/
def trap (c : Config) (s : State) : State := restart c.trapVector s

/-- R200: `Reset()`. It seeds one memory byte and leaves the rest of memory as it was; `IR` is not
among what it writes (R26). -/
def resetEvent (c : Config) (s : State) : State :=
  memWrite c.haltSeedAddr c.haltOpcode
    { s with
      mask := 0
      pending := none
      ie := c.resetIe
      run := true
      fault := none
      pc := c.resetPc
      sp := c.resetRegs.sp
      a := c.resetRegs.a
      b := c.resetRegs.b
      c := c.resetRegs.c
      d := c.resetRegs.d
      e := c.resetRegs.e
      h := c.resetRegs.h
      l := c.resetRegs.l
      f := c.resetRegs.f
      phase := .exec }

/-- R8: one event, atomic. A `Request` on a line outside 0..2 is outside the interface and refused
(R175, decision D30). -/
def applyEvent (c : Config) (ev : Event) (s : State) : Result :=
  match ev with
  | .request line token =>
    if h : line < c.nlines then .next (request ⟨line, c.nlines_eq ▸ h⟩ token s)
    else .refused (.requestOutsideInterface line)
  | .trap => .next (trap c s)
  | .reset => .next (resetEvent c s)

/-- A result carried on: the next state goes to `k`, a stop stays a stop. -/
def andThen (r : Result) (k : State → Result) : Result :=
  match r with
  | .next s => k s
  | .fault e => .fault e
  | .refused e => .refused e

/-- The events of one boundary, in their order. -/
def applyEvents (c : Config) : List Event → State → Result
  | [], s => .next s
  | ev :: rest, s => andThen (applyEvent c ev s) (applyEvents c rest)

/-- R74: a phase boundary: the events scheduled there, if any, are applied and leave the schedule. -/
def boundary (c : Config) (s : State) : Result :=
  match s.schedule with
  | [] => .next s
  | evs :: rest => applyEvents c evs { s with schedule := rest }

end Sys2Proof.Machine
end

