-- ==== Sys2Proof/Machine/Sequencer.lean ====
section
/-! DEFINITION. The fetch-decode-execute sequencer (spec/40_fetch_decode_execute.md): the `Exec` phase
(R71), the `Service` phase (R176), the step made of both (R74), and what happens when the sequencer
takes no phase (R75, R77, R172). All of it is for any configuration (R5). -/

namespace Sys2Proof.Machine

/-- The bytes from `PC` on that an instruction may occupy, at consecutive addresses modulo 65536 (R34,
R50). -/
def instrBytes (s : State) : List Byte :=
  [memByte s s.pc, memByte s (s.pc + 1), memByte s (s.pc + 2)]

/-- The end of an `Exec` phase: the `Service` phase comes next, unless a fault was latched, which ends
the step at once (R74, R76). -/
def endExec (s : State) : State :=
  match s.fault with
  | none => { s with phase := .service }
  | some _ => s

/-- R71: the `Exec` phase: `IR <- Fetch()`, decode, and either the raise of `InvalidOpcode` or the rule
of the one instruction decoded. -/
def execPhase (c : Config) (s : State) : Result :=
  match fetch s with
  | .invalid r t => .next (raise r t)
  | .byte op t =>
    match decodeWith c (instrBytes s) with
    | none => .next (raise (.invalidOpcode op s.pc) { t with ir := op })
    | some (i, _) => andThen (execWith c i { t with ir := op }) fun u => .next (endExec u)

/-- R74, R176: the `Service` phase. -/
def servicePhase (c : Config) (s : State) : State := { service c s with phase := .exec }

/-- The second half of a step, from the boundary after the `Exec` phase on: that boundary's events, then
the `Service` phase and the events of the boundary after it. A latched fault (R76) or a `Reset` at the
first boundary (R200 sets `phase <- Exec`) leaves no `Service` phase to run. -/
def finishStep (c : Config) (s : State) : Result :=
  andThen (boundary c s) fun t =>
    match t.phase, t.fault with
    | .service, none => boundary c (servicePhase c t)
    | _, _ => .next t

/-- R74: `SingleStep`: the `Exec` phase, then the `Service` phase, with the external events of the
boundary after each. -/
def singleStep (c : Config) (s : State) : Result :=
  andThen (execPhase c s) (finishStep c)

/-- Why the sequencer takes no phase (R77). -/
def stopReason (s : State) : Fault :=
  match s.fault with
  | some r => .faulted r
  | none => .halted

/-- A machine whose sequencer takes no phase: only scheduled external events can still change it
(R77, R172, R190); with none left it is stuck. -/
def idle (c : Config) (s : State) : Result :=
  match s.schedule with
  | [] => .fault (stopReason s)
  | _ :: _ => boundary c s

/-- R75: whether the sequencer takes a phase: never with a fault latched; a new step only while
`RUN = 1`, which is tested between steps and not before the `Service` phase of the halting step. -/
def sequencerRuns (s : State) : Bool :=
  match s.fault, s.phase with
  | some _, _ => false
  | none, .exec => s.run
  | none, .service => true

/-- One step of the machine: a `SingleStep` from the `Exec` phase on, or the rest of a step whose `Exec`
phase is done (R74), while the sequencer runs. -/
def stepWith (c : Config) (s : State) : Result :=
  if sequencerRuns s then
    match s.phase with
    | .exec => singleStep c s
    | .service => andThen (.next (servicePhase c s)) (boundary c)
  else idle c s

/-- A program word placed as bytes at consecutive addresses, the lowest byte of the number first. -/
def placeBytes (s : State) : Word → List Byte → State
  | _, [] => s
  | addr, v :: rest =>
    placeBytes { s with mem := Memory.put s.mem addr.toNat v } (addr + 1) rest

/-- The state in which the next step fetches and runs the instruction whose bits are `w`: its three
bytes at `PC` (bits from `nbits` up are 0), the sequencer at the `Exec` phase, running, no fault
latched. -/
def placeFetchWord (s : State) (nbits w : Nat) : State :=
  let v := w % 2 ^ nbits
  placeBytes { s with phase := .exec, run := true, fault := none } s.pc
    [BitVec.ofNat 8 v, BitVec.ofNat 8 (v / 256), BitVec.ofNat 8 (v / 65536)]

end Sys2Proof.Machine
end

