-- ==== Sys2Proof/Machine/Step.lean ====
section
/-! DEFINITION. The step of the machine and the placing of an instruction word, both in terms of
Sys2Proof/Machine/Sequencer.lean. -/

namespace Sys2Proof.Machine

/-- One step (spec/40_fetch_decode_execute.md R74): the `Exec` phase and the `Service` phase of one
instruction, with the parameter values of this model. -/
def step (s : State) : Host.Outcome State Fault Refusal := stepWith config s

/-- `s` with the instruction of the bits `w` placed where `step` fetches its next instruction. -/
def State.withFetchWord (s : State) (nbits w : Nat) : State := placeFetchWord s nbits w

end Sys2Proof.Machine
end

