-- ==== Sys2Proof/Safety.lean ====
section
/-! DEFINITION. The terms claims use: what a final and a safe state are (spec/40_fetch_decode_execute.md
R77), the invariants of the machine (spec/10_state.md R27, spec/20_memory.md R31, R40), and the frame
predicates that say what an instruction leaves alone. -/

namespace Sys2Proof.Machine

/-! ## The end of a run (R77) -/

/-- R77: halted, the one normal final state. -/
def IsHalted (s : State) : Prop := s.run = false ∧ s.fault = none

/-- R77: faulted; never a final state. -/
def IsFaulted (s : State) : Prop := s.fault ≠ none

/-- The states a run from `s` under the configuration `c` comes through. -/
inductive Reaches (c : Config) (s : State) : State → Prop where
  | here : Reaches c s s
  | next {t u : State} : Reaches c s t → stepWith c t = .next u → Reaches c s u

/-- A safe run: no state it comes through is faulted. -/
def SafeRun (c : Config) (s : State) : Prop := ∀ t, Reaches c s t → ¬ IsFaulted t

/-! ## Invariants -/

/-- What holds between steps: memory is in its canonical form (R24, R31: 65536 byte cells), and the
phase to come is `Exec`, since the two phases strictly alternate (R74). -/
def StepInv (s : State) : Prop := Memory.wf s.mem = true ∧ s.phase = .exec

/-- R40: the value of the latest write to an address in a history (newest first), or the launch value
where there is none. -/
def latestWrite (launch : Byte) (addr : Word) : List Transaction → Byte
  | [] => launch
  | .memWrite x v :: rest => if x = addr then v else latestWrite launch addr rest
  | .memRead _ _ :: rest => latestWrite launch addr rest
  | .ioRead _ _ :: rest => latestWrite launch addr rest
  | .ioWrite _ _ :: rest => latestWrite launch addr rest
  | .intAck _ :: rest => latestWrite launch addr rest

/-- R40: every read in the history gave the value of the latest earlier write to its address, or the
launch value. -/
def ReadsAreCoherent (launch : Word → Byte) : List Transaction → Prop
  | [] => True
  | .memRead x v :: rest => v = latestWrite (launch x) x rest ∧ ReadsAreCoherent launch rest
  | .memWrite _ _ :: rest => ReadsAreCoherent launch rest
  | .ioRead _ _ :: rest => ReadsAreCoherent launch rest
  | .ioWrite _ _ :: rest => ReadsAreCoherent launch rest
  | .intAck _ :: rest => ReadsAreCoherent launch rest

/-- R31, R40: memory holds what the history of the bus says it holds, and every read gave what it
should. -/
def BusCoherent (launch : Word → Byte) (s : State) : Prop :=
  (∀ x, memByte s x = latestWrite (launch x) x s.history) ∧ ReadsAreCoherent launch s.history

/-! ## Frames -/

/-- Every register is unchanged but those named. -/
def KeepsRegsBut (but : List Reg) (s t : State) : Prop :=
  ∀ r, r ∉ but → getReg r t = getReg r s

/-- Every byte of memory reads as before. -/
def KeepsMemory (s t : State) : Prop := ∀ x, memByte t x = memByte s x

/-- Every byte of memory outside the addresses named reads as before. -/
def KeepsMemoryBut (but : List Word) (s t : State) : Prop :=
  ∀ x, x ∉ but → memByte t x = memByte s x

/-- The interrupt and sequencer registers but `IE` and `MASK` and `RUN`, and what the model holds for
the outside world but the I/O answers. -/
def KeepsSequencer (s t : State) : Prop :=
  t.pending = s.pending ∧ t.fault = s.fault ∧ t.ir = s.ir ∧ t.phase = s.phase ∧
    t.schedule = s.schedule

/-- The I/O answers to come. -/
def KeepsIo (s t : State) : Prop := t.ioAnswers = s.ioAnswers ∧ t.ioDraws = s.ioDraws

/-- Every control register (R17 to R22), the schedule and the I/O answers. -/
def KeepsControl (s t : State) : Prop :=
  t.ie = s.ie ∧ t.mask = s.mask ∧ t.run = s.run ∧ KeepsSequencer s t ∧ KeepsIo s t

/-- The history grew by exactly these transactions, given oldest first (R45). -/
def Transacts (new : List Transaction) (s t : State) : Prop :=
  t.history = new.reverse ++ s.history

/-! ## The spec's tables, as claims name them -/

/-- R12: the 3-bit code of an operand. -/
def operandCode : Operand → Nat
  | .reg .b => 0
  | .reg .c => 1
  | .reg .d => 2
  | .reg .e => 3
  | .reg .h => 4
  | .reg .l => 5
  | .mem => 6
  | .reg .a => 7

/-- R11: the 2-bit code of a pair, as `PUSH` and `POP` use it. -/
def pairCode : Pair → Nat
  | .bc => 0
  | .de => 1
  | .hl => 2
  | .af => 3

/-- R11: the registers of a pair that have an operand name. -/
def pairRegs : Pair → List Reg
  | .bc => [.b, .c]
  | .de => [.d, .e]
  | .hl => [.h, .l]
  | .af => [.a]

/-- R11: the high half of a pair. -/
def pairHigh : Pair → State → Byte
  | .bc, s => s.b
  | .de, s => s.d
  | .hl, s => s.h
  | .af, s => s.a

/-- R11: the low half of a pair. -/
def pairLow : Pair → State → Byte
  | .bc, s => s.c
  | .de, s => s.e
  | .hl, s => s.l
  | .af, s => s.f

/-- R12: the value an 8-bit operand has in a state. -/
def operandValue : Operand → State → Byte
  | .reg r, s => getReg r s
  | .mem, s => memByte s (joinBytes s.h s.l)

/-- R45: the data transactions of reading an 8-bit operand. -/
def operandReads : Operand → State → List Transaction
  | .reg _, _ => []
  | .mem, s => [.memRead (joinBytes s.h s.l) (memByte s (joinBytes s.h s.l))]

/-- R45: the transaction of one operand `Fetch()` at an address. -/
def fetchOf (s : State) (addr : Word) : Transaction := .memRead addr (memByte s addr)

/-- R110: the operation of each ALU family. -/
def familyOp : AluFamily → AluOp
  | .add | .adc => .add
  | .sub | .sbb => .sub
  | .ana => .and
  | .ora => .or
  | .xra => .xor

/-- R110: the carry selector of each ALU family. -/
def familyUsesCarry : AluFamily → Bool
  | .adc | .sbb => true
  | .add | .sub | .ana | .ora | .xra => false

/-- R56, R57: the first opcode of each ALU family's register block. -/
def familyBase : AluFamily → Nat
  | .add => 0x80
  | .adc => 0x88
  | .sub => 0x90
  | .sbb => 0x98
  | .ana => 0xA0
  | .xra => 0xA8
  | .ora => 0xB0

/-- R57: the source's checking order. -/
def checkingOrder : List AluFamily := [.add, .adc, .sub, .sbb, .ana, .ora, .xra]

/-- R57: the block base of a family, that of OR a parameter. -/
def blockBase (c : Config) : AluFamily → Nat
  | .ora => c.oraBase.toNat
  | family => familyBase family

/-- R55 step 3: the test `0 ≤ byte − base < 8`. -/
abbrev inAluBlock (c : Config) (family : AluFamily) (op : Byte) : Prop :=
  blockBase c family ≤ op.toNat ∧ op.toNat < blockBase c family + 8

/-- R55, R56: the opcode of each ALU family's immediate form. -/
def familyImmediateOpcode : AluFamily → Byte
  | .add => 0xC6
  | .adc => 0xCE
  | .sub => 0xD6
  | .sbb => 0xDE
  | .ana => 0xE6
  | .xra => 0xEE
  | .ora => 0xF6

/-- R10, the column "written by": whether an instruction may write a general register. -/
def mayWriteReg : Asm → Reg → Bool
  | .mvi (.reg q) _, r => q == r
  | .mov (.reg q) _, r => q == r
  | .lxi .b _, r => r == .b || r == .c
  | .lxi .d _, r => r == .d || r == .e
  | .lxi .h _, r => r == .h || r == .l
  | .pop .b, r => r == .b || r == .c
  | .pop .d, r => r == .d || r == .e
  | .pop .h, r => r == .h || r == .l
  | .pop .psw, r => r == .a
  | .alu _ _, r => r == .a
  | .aluImmediate _ _, r => r == .a
  | .inPort _, r => r == .a
  | _, _ => false

/-- R10, the column "written by" of `F`: `POP PSW` and the ALU instructions. -/
def mayWriteFlags : Asm → Bool
  | .pop .psw => true
  | .alu _ _ => true
  | .aluImmediate _ _ => true
  | _ => false

/-- R15: the instructions that write `SP`. -/
def mayWriteStackPointer : Asm → Bool
  | .lxi .sp _ => true
  | .push _ => true
  | .pop _ => true
  | .ret => true
  | .rst _ => true
  | _ => false

/-- R35: the instructions that write memory. -/
def mayWriteMemory : Asm → Bool
  | .mov .mem _ => true
  | .mvi .mem _ => true
  | .push _ => true
  | .rst _ => true
  | _ => false

/-- R145: the instructions that transfer control. -/
def transfersControl : Asm → Bool
  | .jmp _ => true
  | .ret => true
  | .rst _ => true
  | _ => false

/-- R58: the 93 illegal opcode bytes. -/
def illegalBytes : List Byte :=
  [0x02, 0x03, 0x04, 0x05, 0x07, 0x08, 0x09, 0x0A, 0x0B, 0x0C, 0x0D, 0x0F] ++
  [0x10, 0x12, 0x13, 0x14, 0x15, 0x17, 0x18, 0x19, 0x1A, 0x1B, 0x1C, 0x1D, 0x1F] ++
  [0x20, 0x22, 0x23, 0x24, 0x25, 0x27, 0x28, 0x29, 0x2A, 0x2B, 0x2C, 0x2D, 0x2F] ++
  [0x32, 0x33, 0x34, 0x35, 0x37, 0x38, 0x39, 0x3A, 0x3B, 0x3C, 0x3D, 0x3F] ++
  [0xB8, 0xB9, 0xBA, 0xBB, 0xBC, 0xBD, 0xBE, 0xBF] ++
  [0xC0, 0xC2, 0xC4, 0xC8, 0xCA, 0xCB, 0xCC, 0xCD] ++
  [0xD0, 0xD2, 0xD4, 0xD8, 0xD9, 0xDA, 0xDC, 0xDD] ++
  [0xE0, 0xE2, 0xE3, 0xE4, 0xE8, 0xE9, 0xEA, 0xEB, 0xEC, 0xED] ++
  [0xF0, 0xF2, 0xF4, 0xF8, 0xF9, 0xFA, 0xFC, 0xFD, 0xFE]

end Sys2Proof.Machine
end

