-- ==== Sys2Proof/Certificates/Slice0/Obligations.lean ====
section
/-! DEFINITION. The statements for the provers. An instruction's rule runs in the state the opcode fetch
leaves: `s.pc` is `a + 1`, `a` the address of the opcode byte. The opcode numbers are the spec's decision D3
(notes/assumptions/7.md), the vectors D8 and D9 (6.md), the wrap of addresses D7 (10.md), the halves of a pair
and the fields of `MOV` D18 and D21 (18.md). `exec`, `decode`, `step` and `State.reset` have the parameter
values of this model (R5); `execWith c`, `decodeWith c`, `stepWith c` and `State.resetWith c` are the same under
any configuration `c`, and a clause about them quantifies over it. The frames also speak of the model's own
fields: the schedule (11.md), the I/O answers and draws (3.md) and the history (14.md). -/

open Sys2Proof Sys2Proof.Machine

/-! ## Encoding -/

/-- R50, R56: decoding the encoding of any instruction, whatever bytes follow, gives it back with those
bytes left over. -/
def Obligations.DecodeOfEncodeIsIdentity : Prop :=
  ∀ (i : Instr) (rest : List Byte), decode (encode i ++ rest) = some (i, rest)

/-- R55, R56: bytes that decode to an instruction are its encoding followed by the bytes left over, so
each byte sequence has one meaning and no bit of it is dropped. -/
def Obligations.DecodedBytesAreTheEncoding : Prop :=
  ∀ (bytes : List Byte) (i : Instr) (rest : List Byte),
    decode bytes = some (i, rest) → bytes = encode i ++ rest

/-- R58: the opcode bytes that decode to nothing are exactly the 93 of the list, whatever follows. Under any
other `ORA_BASE` they are those of the list and 0xB0 to 0xB7, less the bytes of the OR block. -/
def Obligations.IllegalBytesAreThoseListed : Prop :=
  (∀ op lo hi : Byte, decodeOpcode config op lo hi = none ↔ op ∈ illegalBytes) ∧
  ∀ (c : Config) (op lo hi : Byte), decodeOpcode c op lo hi = none ↔
    ¬ inAluBlock c .ora op ∧ (op ∈ illegalBytes ∨ (0xB0 ≤ op.toNat ∧ op.toNat ≤ 0xB7))

/-- R50, R55: the opcode byte alone decides whether there is an instruction, which mnemonic it has as
its first encoded byte, and its length. -/
def Obligations.OpcodeAloneDeterminesLength : Prop :=
  ∀ op lo hi lo' hi' : Byte,
    (decodeOpcode config op lo hi = none ↔ decodeOpcode config op lo' hi' = none) ∧
    ∀ i i', decodeOpcode config op lo hi = some i → decodeOpcode config op lo' hi' = some i' →
      i.length = i'.length ∧ (encode i).head? = some op ∧ (encode i').head? = some op ∧
        1 ≤ i.length ∧ i.length ≤ 3

/-- R51 to R56: words written out bit by bit from the bit patterns of R56, one of each format and family,
decode to the instructions they stand for; 0x76 is `HLT`, not `MOV M,M`. -/
def Obligations.SampleWordsDecode : Prop :=
  decode [0b00000000] = some (.nop, []) ∧
  decode [0b01110110] = some (.hlt, []) ∧
  decode [0b00100001, 0x34, 0x12] = some (.lxiH 0x1234, []) ∧
  decode [0b00001110, 0x22] = some (.mviC 0x22, []) ∧
  decode [0b01010110] = some (.movDM, []) ∧
  decode [0b01110011] = some (.movME, []) ∧
  decode [0b10110100] = some (.oraH, []) ∧
  decode [0b11010101] = some (.pushD, []) ∧
  decode [0b11000011, 0x00, 0x20] = some (.jmp 0x2000, []) ∧
  decode [0b11101111] = some (.rst5, []) ∧
  decode [0b11101110, 0xFF] = some (.xri 0xFF, []) ∧
  decode [0b11011011, 0x10] = some (.inPort 0x10, []) ∧
  decode [0b00110000] = some (.sim, [])

/-- R57: with any `ORA_BASE`, a byte goes to the first family in the checking order whose block holds it,
with the operand at its place in the block; a byte in no block is no register form. With the value of this
model the seven blocks leave 0xB8 to 0xBF over. -/
def Obligations.AluCheckingOrderDecidesOverlaps : Prop :=
  (∀ (c : Config) (earlier later : List AluFamily) (family : AluFamily) (op : Byte),
    earlier ++ family :: later = checkingOrder → inAluBlock c family op →
    (∀ g ∈ earlier, ¬ inAluBlock c g op) →
    decodeBlocks (aluBlocks c) op =
      (operandOfCode (op.toNat - blockBase c family)).map (aluRegisterInstr family)) ∧
  (∀ (c : Config) (op : Byte), (∀ g, ¬ inAluBlock c g op) → decodeBlocks (aluBlocks c) op = none) ∧
  (∀ family, blockBase config family = familyBase family) ∧
  ∀ op : Byte, 0xB8 ≤ op.toNat → op.toNat ≤ 0xBF → ∀ g, ¬ inAluBlock config g op

/-- R61: every instruction has one well-formed assembler spelling, which assembles to it; every
well-formed statement is the spelling of the instruction it assembles to; an ill-formed one assembles to
nothing. -/
def Obligations.AssemblerSpellingsAreOneToOne : Prop :=
  (∀ i : Instr, i.wellFormed = true ∧ i.asm.assemble = some i) ∧
  (∀ stmt : Asm, stmt.wellFormed = true → ∃ i, stmt.assemble = some i ∧ i.asm = stmt) ∧
  (∀ stmt : Asm, stmt.wellFormed = false → stmt.assemble = none)

/-! ## The sequencer -/

/-- R71, R74: when the bytes at `PC` decode to `i`, the step is `exec i` in the state the opcode fetch
leaves (`PC` past the opcode, `IR` the opcode, the fetch recorded), then the end of the `Exec` phase,
then the boundary, the `Service` phase and its boundary (`finishStep`). With no external event scheduled
and no fault latched by `i`, what comes after `exec i` is the `Service` phase alone. The same holds of the step
under any configuration; `step` and `exec` are those of the configuration of this model. -/
def Obligations.StepRunsTheDecodedInstruction : Prop :=
  (∀ (s : State) (i : Instr) (rest : List Byte),
    s.run = true → s.fault = none → s.phase = .exec →
    decode [memByte s s.pc, memByte s (s.pc + 1), memByte s (s.pc + 2)] = some (i, rest) →
    let entry := { s with
      pc := s.pc + 1
      ir := memByte s s.pc
      history := .memRead s.pc (memByte s s.pc) :: s.history }
    step s = andThen (exec i entry) (fun u => finishStep config (endExec u)) ∧
    ∀ u, exec i entry = .next u → u.fault = none → u.schedule = [] →
      step s = .next { service config { u with phase := .service } with phase := .exec }) ∧
  (∀ (c : Config) (s : State) (i : Instr) (rest : List Byte),
    s.run = true → s.fault = none → s.phase = .exec →
    decodeWith c [memByte s s.pc, memByte s (s.pc + 1), memByte s (s.pc + 2)] = some (i, rest) →
    let entry := { s with
      pc := s.pc + 1
      ir := memByte s s.pc
      history := .memRead s.pc (memByte s s.pc) :: s.history }
    stepWith c s = andThen (execWith c i entry) (fun u => finishStep c (endExec u)) ∧
    ∀ u, execWith c i entry = .next u → u.fault = none → u.schedule = [] →
      stepWith c s = .next { service c { u with phase := .service } with phase := .exec }) ∧
  (∀ bytes, decode bytes = decodeWith config bytes) ∧
  (∀ i s, exec i s = execWith config i s) ∧
  ∀ s, step s = stepWith config s

/-- R14: where the `Exec` phase leaves `PC`, `a = s.pc` being the address of the opcode byte. -/
def Obligations.ExecPhaseProgramCounter : Prop :=
  ∀ (s t : State), execPhase config s = .next t →
    (∀ i rest, decode [memByte s s.pc, memByte s (s.pc + 1), memByte s (s.pc + 2)] = some (i, rest) →
      (transfersControl i.asm = false → t.pc = s.pc + BitVec.ofNat 16 i.length) ∧
      (∀ a16, i = .jmp a16 → t.pc = joinBytes (memByte s (s.pc + 2)) (memByte s (s.pc + 1))) ∧
      (i = .ret → t.pc = joinBytes (memByte s (s.sp + 1)) (memByte s s.sp)) ∧
      (∀ n : Fin 8, i = rstInstr n → t.pc = BitVec.ofNat 16 (8 * n.val) ∧
        memByte t (s.sp - 1) = hiByte (s.pc + 1) ∧ memByte t (s.sp - 2) = loByte (s.pc + 1))) ∧
    (memByte s s.pc ∈ illegalBytes →
      t.pc = s.pc + 1 ∧ t.fault = some (.invalidOpcode (memByte s s.pc) s.pc))

/-- R78: `NOP` changes nothing beyond what the opcode fetch did. -/
def Obligations.NopDoesNothing : Prop :=
  encode .nop = [0x00] ∧ ∀ s : State, exec .nop s = .next s

/-- R79, R75: `HLT` clears `RUN` and changes nothing else; the `Service` phase of the step that executes it
still runs: with `IE = 1` and a request pending the interrupt is entered and the machine is halted with
`PC` at the vector, else it is halted with `PC` after the `HLT`. -/
def Obligations.HltStopsAfterItsService : Prop :=
  encode .hlt = [0x76] ∧
  (∀ s : State, ∃ t, exec .hlt s = .next t ∧ t.run = false ∧ t.pc = s.pc ∧ t.sp = s.sp ∧ t.f = s.f ∧
    KeepsRegsBut [] s t ∧ KeepsMemory s t ∧ t.ie = s.ie ∧ t.mask = s.mask ∧ KeepsSequencer s t ∧
    KeepsIo s t ∧ Transacts [] s t) ∧
  ∀ s : State, s.run = true → s.fault = none → s.phase = .exec → s.schedule = [] →
    memByte s s.pc = 0x76 →
    ∃ t, step s = .next t ∧ IsHalted t ∧
      (∀ p, s.ie = true → s.pending = some p →
        t.pc = 0x002C + BitVec.ofNat 16 p.line.val * 8 ∧ t.ie = false ∧ t.pending = none ∧
        t.sp = s.sp - 2 ∧ memByte t (s.sp - 1) = hiByte (s.pc + 1) ∧
        memByte t (s.sp - 2) = loByte (s.pc + 1)) ∧
      ((s.ie = false ∨ s.pending = none) →
        t.pc = s.pc + 1 ∧ t.ie = s.ie ∧ t.pending = s.pending ∧ t.sp = s.sp ∧ KeepsMemory s t)

/-! ## Register transfer -/

/-- R90: `MVI r, d8`. -/
def Obligations.MviLoadsRegister : Prop :=
  ∀ (r : Reg) (d8 : Byte) (s : State),
    encode (mviRegisterInstr r d8) = [BitVec.ofNat 8 (0x06 + 8 * operandCode (.reg r)), d8] ∧
    ∃ t, exec (mviRegisterInstr r d8) s = .next t ∧ getReg r t = d8 ∧ t.pc = s.pc + 1 ∧
      KeepsRegsBut [r] s t ∧ t.f = s.f ∧ t.sp = s.sp ∧ KeepsMemory s t ∧ KeepsControl s t ∧
      Transacts [fetchOf s s.pc] s t

/-- R91: `MVI M, d8`: the byte is fetched, then stored at `HL`. -/
def Obligations.MviStoresToMemory : Prop :=
  ∀ (d8 : Byte) (s : State),
    encode (.mviM d8) = [0x36, d8] ∧
    ∃ t, exec (.mviM d8) s = .next t ∧ memByte t (joinBytes s.h s.l) = d8 ∧ t.pc = s.pc + 1 ∧
      KeepsRegsBut [] s t ∧ t.f = s.f ∧ t.sp = s.sp ∧
      KeepsMemoryBut [joinBytes s.h s.l] s t ∧ KeepsControl s t ∧
      Transacts [fetchOf s s.pc, .memWrite (joinBytes s.h s.l) d8] s t

/-- R92: `LXI B/D/H, d16` into a pair and `LXI SP, d16`, low byte first in memory. -/
def Obligations.LxiLoadsPairOrStackPointer : Prop :=
  ∀ (d16 : Word) (s : State),
    (encode (.lxiB d16) = [0x01, loByte d16, hiByte d16] ∧
      encode (.lxiD d16) = [0x11, loByte d16, hiByte d16] ∧
      encode (.lxiH d16) = [0x21, loByte d16, hiByte d16] ∧
      encode (.lxiSP d16) = [0x31, loByte d16, hiByte d16]) ∧
    (∃ t, exec (.lxiB d16) s = .next t ∧ t.b = hiByte d16 ∧ t.c = loByte d16 ∧
      KeepsRegsBut [.b, .c] s t ∧ t.sp = s.sp ∧ t.pc = s.pc + 2 ∧ t.f = s.f ∧ KeepsMemory s t ∧
      KeepsControl s t ∧ Transacts [fetchOf s s.pc, fetchOf s (s.pc + 1)] s t) ∧
    (∃ t, exec (.lxiD d16) s = .next t ∧ t.d = hiByte d16 ∧ t.e = loByte d16 ∧
      KeepsRegsBut [.d, .e] s t ∧ t.sp = s.sp ∧ t.pc = s.pc + 2 ∧ t.f = s.f ∧ KeepsMemory s t ∧
      KeepsControl s t ∧ Transacts [fetchOf s s.pc, fetchOf s (s.pc + 1)] s t) ∧
    (∃ t, exec (.lxiH d16) s = .next t ∧ t.h = hiByte d16 ∧ t.l = loByte d16 ∧
      KeepsRegsBut [.h, .l] s t ∧ t.sp = s.sp ∧ t.pc = s.pc + 2 ∧ t.f = s.f ∧ KeepsMemory s t ∧
      KeepsControl s t ∧ Transacts [fetchOf s s.pc, fetchOf s (s.pc + 1)] s t) ∧
    (∃ t, exec (.lxiSP d16) s = .next t ∧ t.sp = d16 ∧
      KeepsRegsBut [] s t ∧ t.pc = s.pc + 2 ∧ t.f = s.f ∧ KeepsMemory s t ∧
      KeepsControl s t ∧ Transacts [fetchOf s s.pc, fetchOf s (s.pc + 1)] s t)

/-- R93: `MOV d, s` between registers, the 49 forms, the seven self-moves among them. -/
def Obligations.MovCopiesRegister : Prop :=
  ∀ (dest source : Reg) (s : State),
    encode (movRegisterInstr dest source) =
      [BitVec.ofNat 8 (0x40 + 8 * operandCode (.reg dest) + operandCode (.reg source))] ∧
    ∃ t, exec (movRegisterInstr dest source) s = .next t ∧ getReg dest t = getReg source s ∧
      t.pc = s.pc ∧ KeepsRegsBut [dest] s t ∧ t.f = s.f ∧ t.sp = s.sp ∧ KeepsMemory s t ∧
      KeepsControl s t ∧ Transacts [] s t

/-- R94: `MOV d, M`; the address is the old `HL` even where `d` is `H` or `L`. -/
def Obligations.MovLoadsFromMemory : Prop :=
  ∀ (dest : Reg) (s : State),
    encode (movFromMemoryInstr dest) = [BitVec.ofNat 8 (0x46 + 8 * operandCode (.reg dest))] ∧
    ∃ t, exec (movFromMemoryInstr dest) s = .next t ∧
      getReg dest t = memByte s (joinBytes s.h s.l) ∧
      t.pc = s.pc ∧ KeepsRegsBut [dest] s t ∧ t.f = s.f ∧ t.sp = s.sp ∧ KeepsMemory s t ∧
      KeepsControl s t ∧
      Transacts [.memRead (joinBytes s.h s.l) (memByte s (joinBytes s.h s.l))] s t

/-- R95: `MOV M, s`. -/
def Obligations.MovStoresToMemory : Prop :=
  ∀ (source : Reg) (s : State),
    encode (movToMemoryInstr source) = [BitVec.ofNat 8 (0x70 + operandCode (.reg source))] ∧
    ∃ t, exec (movToMemoryInstr source) s = .next t ∧
      memByte t (joinBytes s.h s.l) = getReg source s ∧
      t.pc = s.pc ∧ KeepsRegsBut [] s t ∧ t.f = s.f ∧ t.sp = s.sp ∧
      KeepsMemoryBut [joinBytes s.h s.l] s t ∧ KeepsControl s t ∧
      Transacts [.memWrite (joinBytes s.h s.l) (getReg source s)] s t

/-- R99: `PUSH rp`; the high register at `SP − 1`, the low register at `SP − 2`; `PUSH PSW` stores all 8
bits of `F`. -/
def Obligations.PushStoresPair : Prop :=
  ∀ (p : Pair) (s : State),
    encode (pushInstr p) = [BitVec.ofNat 8 (0xC5 + 16 * pairCode p)] ∧
    ∃ t, exec (pushInstr p) s = .next t ∧ t.sp = s.sp - 2 ∧
      memByte t (s.sp - 1) = pairHigh p s ∧ memByte t (s.sp - 2) = pairLow p s ∧
      t.pc = s.pc ∧ KeepsRegsBut [] s t ∧ t.f = s.f ∧
      KeepsMemoryBut [s.sp - 1, s.sp - 2] s t ∧ KeepsControl s t ∧
      Transacts [.memWrite (s.sp - 1) (pairHigh p s), .memWrite (s.sp - 2) (pairLow p s)] s t

/-- R100: `POP rp`; `POP PSW` loads all 8 bits of `F`; the other `POP`s change no flag. -/
def Obligations.PopLoadsPair : Prop :=
  ∀ (p : Pair) (s : State),
    encode (popInstr p) = [BitVec.ofNat 8 (0xC1 + 16 * pairCode p)] ∧
    ∃ t, exec (popInstr p) s = .next t ∧ t.sp = s.sp + 2 ∧
      pairHigh p t = memByte s (s.sp + 1) ∧ pairLow p t = memByte s s.sp ∧
      t.pc = s.pc ∧ KeepsRegsBut (pairRegs p) s t ∧ (p ≠ .af → t.f = s.f) ∧ KeepsMemory s t ∧
      KeepsControl s t ∧ Transacts [fetchOf s s.sp, fetchOf s (s.sp + 1)] s t

/-- R101: a push, then a pop, returns the word pushed and restores `SP`, for every word and every `SP`;
and `PUSH` then `POP` of any pair, `PSW` included, restores the pair and `SP`. -/
def Obligations.PushThenPopIsIdentity : Prop :=
  (∀ (w : Word) (s : State), (pop16 (push16 w s)).1 = w ∧ (pop16 (push16 w s)).2.sp = s.sp) ∧
  ∀ (p : Pair) (s : State), ∃ t, andThen (exec (pushInstr p) s) (exec (popInstr p)) = .next t ∧
    pairHigh p t = pairHigh p s ∧ pairLow p t = pairLow p s ∧ t.sp = s.sp ∧
    KeepsRegsBut [] s t ∧ t.f = s.f

/-- R10, R12, R31: writing an 8-bit operand and reading it gives the value written; `M` goes through the
bus at `HL` and is never a register; a memory write is seen by the next read of its address and by no
other, and a read changes no register and no byte. -/
def Obligations.StorageReadsBackWhatWasWritten : Prop :=
  (∀ (o : Operand) (v : Byte) (s : State),
    (rdOp8 o (wrOp8 o v s)).1 = v ∧
    (o = .mem → KeepsRegsBut [] s (wrOp8 o v s) ∧ memByte (wrOp8 o v s) (joinBytes s.h s.l) = v ∧
      Transacts [.memWrite (joinBytes s.h s.l) v] s (wrOp8 o v s))) ∧
  ∀ (x : Word) (v : Byte) (s : State),
    (memRead x (memWrite x v s)).1 = v ∧ KeepsMemoryBut [x] s (memWrite x v s) ∧
    KeepsMemory s (memRead x s).2 ∧ KeepsRegsBut [] s (memRead x s).2

/-! ## Arithmetic and logic -/

/-- R110: every ALU instruction reads its operand and stores what the Execution Unit answers into `A` and
`F`, and changes nothing else; register and `M` forms, and immediate forms. -/
def Obligations.AluDispatchesToTheExecutionUnit : Prop :=
  ∀ (family : AluFamily) (s : State),
    (∀ o : Operand,
      encode (aluRegisterInstr family o) = [BitVec.ofNat 8 (familyBase family + operandCode o)] ∧
      ∃ t, exec (aluRegisterInstr family o) s = .next t ∧
        (t.a, t.f) = config.eu.alu (familyOp family) (familyUsesCarry family) s.a s.f
          (operandValue o s) ∧
        t.pc = s.pc ∧ KeepsRegsBut [.a] s t ∧ t.sp = s.sp ∧ KeepsMemory s t ∧ KeepsControl s t ∧
        Transacts (operandReads o s) s t) ∧
    ∀ d8 : Byte,
      encode (aluImmediateInstr family d8) = [familyImmediateOpcode family, d8] ∧
      ∃ t, exec (aluImmediateInstr family d8) s = .next t ∧
        (t.a, t.f) = config.eu.alu (familyOp family) (familyUsesCarry family) s.a s.f d8 ∧
        t.pc = s.pc + 1 ∧ KeepsRegsBut [.a] s t ∧ t.sp = s.sp ∧ KeepsMemory s t ∧
        KeepsControl s t ∧ Transacts [fetchOf s s.pc] s t

/-- R113, R114, R120, R121: the sums, modulo 256; `c(F)` is bit 0 of `F` in the reference unit (R112, the
spec's own choice, decision D17). -/
def Obligations.AdditionResults : Prop :=
  ∀ (s : State),
    (∀ o : Operand,
      (∃ t, exec (aluRegisterInstr .add o) s = .next t ∧
        t.a.toNat = (s.a.toNat + (operandValue o s).toNat) % 256) ∧
      ∃ t, exec (aluRegisterInstr .adc o) s = .next t ∧
        t.a.toNat = (s.a.toNat + (operandValue o s).toNat + s.f.toNat % 2) % 256) ∧
    ∀ d8 : Byte,
      (∃ t, exec (.adi d8) s = .next t ∧ t.a.toNat = (s.a.toNat + d8.toNat) % 256) ∧
      ∃ t, exec (.aci d8) s = .next t ∧ t.a.toNat = (s.a.toNat + d8.toNat + s.f.toNat % 2) % 256

/-- R115, R116, R122, R123: the differences, modulo 256, as integers; all four instructions subtract
(decision D6). -/
def Obligations.SubtractionResults : Prop :=
  ∀ (s : State),
    (∀ o : Operand,
      (∃ t, exec (aluRegisterInstr .sub o) s = .next t ∧
        (t.a.toNat : Int) = ((s.a.toNat : Int) - (operandValue o s).toNat) % 256) ∧
      ∃ t, exec (aluRegisterInstr .sbb o) s = .next t ∧
        (t.a.toNat : Int) =
          ((s.a.toNat : Int) - (operandValue o s).toNat - (s.f.toNat % 2 : Nat)) % 256) ∧
    ∀ d8 : Byte,
      (∃ t, exec (.sui d8) s = .next t ∧
        (t.a.toNat : Int) = ((s.a.toNat : Int) - d8.toNat) % 256) ∧
      ∃ t, exec (.sbi d8) s = .next t ∧
        (t.a.toNat : Int) = ((s.a.toNat : Int) - d8.toNat - (s.f.toNat % 2 : Nat)) % 256

/-- R117 to R119, R124 to R126: AND, OR and XOR, bit by bit. -/
def Obligations.LogicResults : Prop :=
  ∀ (s : State),
    (∀ o : Operand,
      (∃ t, exec (aluRegisterInstr .ana o) s = .next t ∧
        ∀ k, t.a.getLsbD k = (s.a.getLsbD k && (operandValue o s).getLsbD k)) ∧
      (∃ t, exec (aluRegisterInstr .ora o) s = .next t ∧
        ∀ k, t.a.getLsbD k = (s.a.getLsbD k || (operandValue o s).getLsbD k)) ∧
      ∃ t, exec (aluRegisterInstr .xra o) s = .next t ∧
        ∀ k, t.a.getLsbD k = (s.a.getLsbD k ^^ (operandValue o s).getLsbD k)) ∧
    ∀ d8 : Byte,
      (∃ t, exec (.ani d8) s = .next t ∧ ∀ k, t.a.getLsbD k = (s.a.getLsbD k && d8.getLsbD k)) ∧
      (∃ t, exec (.ori d8) s = .next t ∧ ∀ k, t.a.getLsbD k = (s.a.getLsbD k || d8.getLsbD k)) ∧
      ∃ t, exec (.xri d8) s = .next t ∧ ∀ k, t.a.getLsbD k = (s.a.getLsbD k ^^ d8.getLsbD k)

/-- R111 point 4: the reference Execution Unit meets the contract, the result written as an integer
modulo 256 or bit by bit. -/
def Obligations.ReferenceUnitMeetsTheContract : Prop :=
  meetsContract referenceEU ∧
  ∀ (useCarry : Bool) (a f x : Byte),
    (referenceEU.alu .add useCarry a f x).1.toNat =
      (a.toNat + x.toNat + if useCarry then f.toNat % 2 else 0) % 256 ∧
    (((referenceEU.alu .sub useCarry a f x).1.toNat : Nat) : Int) =
      ((a.toNat : Int) - x.toNat - (if useCarry then f.toNat % 2 else 0 : Nat)) % 256

/-- R111: under ANY Execution Unit that meets the contract every ALU instruction, in its register and `M`
forms and in its immediate form, puts the result the operation names into `A` and the flags the unit answers
into `F`, and nothing else changes. -/
def Obligations.AnyUnitGivesTheResult : Prop :=
  ∀ (c : Config), meetsContract c.eu → c.subIsSubtract = true →
    (∀ (family : AluFamily) (x : Byte) (s : State),
      (aluApply c family x s).a =
        aluResult (familyOp family) (familyUsesCarry family && c.eu.carry s.f) s.a x ∧
      aluApply c family x s =
        { s with a := (aluApply c family x s).a, f := (aluApply c family x s).f }) ∧
    ∀ (family : AluFamily) (s : State),
      (∀ o : Operand, ∃ t, execWith c (aluRegisterInstr family o) s = .next t ∧
        t.a = aluResult (familyOp family) (familyUsesCarry family && c.eu.carry s.f) s.a
          (operandValue o s) ∧
        t.f = (c.eu.alu (familyOp family) (familyUsesCarry family) s.a s.f (operandValue o s)).2 ∧
        t.pc = s.pc ∧ KeepsRegsBut [.a] s t ∧ t.sp = s.sp ∧ KeepsMemory s t ∧ KeepsControl s t ∧
        Transacts (operandReads o s) s t) ∧
      ∀ d8 : Byte, ∃ t, execWith c (aluImmediateInstr family d8) s = .next t ∧
        t.a = aluResult (familyOp family) (familyUsesCarry family && c.eu.carry s.f) s.a d8 ∧
        t.f = (c.eu.alu (familyOp family) (familyUsesCarry family) s.a s.f d8).2 ∧
        t.pc = s.pc + 1 ∧ KeepsRegsBut [.a] s t ∧ t.sp = s.sp ∧ KeepsMemory s t ∧
        KeepsControl s t ∧ Transacts [fetchOf s s.pc] s t

/-- R112: the flags of the reference unit after every operation: sign, zero, parity from the result, and
0 in bits 5, 3 and 1 (the spec's decision D17, notes/assumptions/9.md). Parity is written as the exclusive OR
of the result's bits. -/
def Obligations.ReferenceFlagsFromTheResult : Prop :=
  ∀ (op : AluOp) (useCarry : Bool) (a f x : Byte),
    let r := (referenceEU.alu op useCarry a f x).1
    let f' := (referenceEU.alu op useCarry a f x).2
    f'.getLsbD 7 = r.getLsbD 7 ∧
    (f'.getLsbD 6 = true ↔ r = 0) ∧
    f'.getLsbD 2 = !(r.getLsbD 0 ^^ r.getLsbD 1 ^^ r.getLsbD 2 ^^ r.getLsbD 3 ^^ r.getLsbD 4 ^^
      r.getLsbD 5 ^^ r.getLsbD 6 ^^ r.getLsbD 7) ∧
    f'.getLsbD 5 = false ∧ f'.getLsbD 3 = false ∧ f'.getLsbD 1 = false

/-- R112: the carry and the auxiliary carry of the reference unit: carry out of the whole byte and of the
low half for ADD; borrow, and the complement of the borrow of the low half, for SUB; fixed for AND, OR and
XOR (the spec's decision D17, notes/assumptions/9.md). -/
def Obligations.ReferenceCarryFlags : Prop :=
  ∀ (useCarry : Bool) (a f x : Byte),
    let cin := if useCarry then f.toNat % 2 else 0
    ((referenceEU.alu .add useCarry a f x).2.getLsbD 0 = true ↔ 256 ≤ a.toNat + x.toNat + cin) ∧
    ((referenceEU.alu .add useCarry a f x).2.getLsbD 4 = true ↔
      16 ≤ a.toNat % 16 + x.toNat % 16 + cin) ∧
    ((referenceEU.alu .sub useCarry a f x).2.getLsbD 0 = true ↔ a.toNat < x.toNat + cin) ∧
    ((referenceEU.alu .sub useCarry a f x).2.getLsbD 4 = true ↔
      x.toNat % 16 + cin ≤ a.toNat % 16) ∧
    (referenceEU.alu .and useCarry a f x).2.getLsbD 0 = false ∧
    (referenceEU.alu .and useCarry a f x).2.getLsbD 4 = true ∧
    (referenceEU.alu .or useCarry a f x).2.getLsbD 0 = false ∧
    (referenceEU.alu .or useCarry a f x).2.getLsbD 4 = false ∧
    (referenceEU.alu .xor useCarry a f x).2.getLsbD 0 = false ∧
    (referenceEU.alu .xor useCarry a f x).2.getLsbD 4 = false

/-! ## Control flow -/

/-- R140: `Restart(v)` pushes `PC`, high byte at the higher address, sets `PC` to `v`, and changes nothing
else. -/
def Obligations.RestartPushesThenJumps : Prop :=
  ∀ (v : Word) (s : State),
    (restart v s).pc = v ∧ (restart v s).sp = s.sp - 2 ∧
    memByte (restart v s) (s.sp - 1) = hiByte s.pc ∧
    memByte (restart v s) (s.sp - 2) = loByte s.pc ∧
    KeepsMemoryBut [s.sp - 1, s.sp - 2] s (restart v s) ∧ KeepsRegsBut [] s (restart v s) ∧
    (restart v s).f = s.f ∧ KeepsControl s (restart v s) ∧
    Transacts [.memWrite (s.sp - 1) (hiByte s.pc), .memWrite (s.sp - 2) (loByte s.pc)] s (restart v s)

/-- R141: `JMP a16`. -/
def Obligations.JmpSetsProgramCounter : Prop :=
  ∀ (a16 : Word) (s : State),
    encode (.jmp a16) = [0xC3, loByte a16, hiByte a16] ∧
    ∃ t, exec (.jmp a16) s = .next t ∧ t.pc = a16 ∧ t.sp = s.sp ∧ t.f = s.f ∧
      KeepsRegsBut [] s t ∧ KeepsMemory s t ∧ KeepsControl s t ∧
      Transacts [fetchOf s s.pc, fetchOf s (s.pc + 1)] s t

/-- R142: `RET`. -/
def Obligations.RetPopsProgramCounter : Prop :=
  encode .ret = [0xC9] ∧
  ∀ s : State, ∃ t, exec .ret s = .next t ∧
    t.pc = joinBytes (memByte s (s.sp + 1)) (memByte s s.sp) ∧ t.sp = s.sp + 2 ∧ t.f = s.f ∧
    KeepsRegsBut [] s t ∧ KeepsMemory s t ∧ KeepsControl s t ∧
    Transacts [fetchOf s s.sp, fetchOf s (s.sp + 1)] s t

/-- R143: `RST n`. The pushed address is `a + 1`, which `PC` holds when the rule runs. Under any
configuration the vector is `n` times `RST_STRIDE` (R5), and all else is the same. -/
def Obligations.RstCallsItsVector : Prop :=
  (∀ (n : Fin 8) (s : State),
    encode (rstInstr n) = [BitVec.ofNat 8 (0xC7 + 8 * n.val)] ∧
    ∃ t, exec (rstInstr n) s = .next t ∧ t.pc = BitVec.ofNat 16 (8 * n.val) ∧ t.sp = s.sp - 2 ∧
      memByte t (s.sp - 1) = hiByte s.pc ∧ memByte t (s.sp - 2) = loByte s.pc ∧ t.f = s.f ∧
      KeepsRegsBut [] s t ∧ KeepsMemoryBut [s.sp - 1, s.sp - 2] s t ∧ KeepsControl s t ∧
      Transacts [.memWrite (s.sp - 1) (hiByte s.pc), .memWrite (s.sp - 2) (loByte s.pc)] s t) ∧
  ∀ (c : Config) (n : Fin 8) (s : State), ∃ t, execWith c (rstInstr n) s = .next t ∧
    t.pc = BitVec.ofNat 16 n.val * c.rstStride ∧ t.sp = s.sp - 2 ∧
    memByte t (s.sp - 1) = hiByte s.pc ∧ memByte t (s.sp - 2) = loByte s.pc ∧ t.f = s.f ∧
    KeepsRegsBut [] s t ∧ KeepsMemoryBut [s.sp - 1, s.sp - 2] s t ∧ KeepsControl s t ∧
    Transacts [.memWrite (s.sp - 1) (hiByte s.pc), .memWrite (s.sp - 2) (loByte s.pc)] s t

/-- R144: `RST n` then `RET` restores `PC` and `SP`; so does an interrupt entry or a trap entry followed by
`RET`, with any vectors. -/
def Obligations.ReturnUndoesEveryEntry : Prop :=
  (∀ (n : Fin 8) (s : State), ∃ t, andThen (exec (rstInstr n) s) (exec .ret) = .next t ∧
    t.pc = s.pc ∧ t.sp = s.sp) ∧
  (∀ (c : Config) (s : State), ∃ t, exec .ret (trap c s) = .next t ∧ t.pc = s.pc ∧ t.sp = s.sp) ∧
  ∀ (c : Config) (p : Pending) (s : State), s.ie = true → s.pending = some p →
    ∃ t, exec .ret (service c s) = .next t ∧ t.pc = s.pc ∧ t.sp = s.sp ∧ t.ie = false

/-! ## Input, output and interrupt control -/

/-- R155, R32: `IN p8` puts the oracle's answer into `A`: the next answer the host placed, else the free
value `Config.ioDraw`, of which nothing is assumed (notes/assumptions/3.md). That the port is the second byte
and the data register `A` is the spec's decision D19 (notes/assumptions/19.md). -/
def Obligations.InReadsThePort : Prop :=
  ∀ (p8 : Byte) (s : State),
    encode (.inPort p8) = [0xDB, p8] ∧
    ∃ t, exec (.inPort p8) s = .next t ∧
      (∀ v more, s.ioAnswers = v :: more → t.a = v ∧ t.ioAnswers = more ∧ t.ioDraws = s.ioDraws) ∧
      (s.ioAnswers = [] → t.a = Config.ioDraw s.ioDraws p8 ∧ t.ioAnswers = [] ∧
        t.ioDraws = s.ioDraws + 1) ∧
      t.pc = s.pc + 1 ∧ t.sp = s.sp ∧ t.f = s.f ∧ KeepsRegsBut [.a] s t ∧ KeepsMemory s t ∧
      t.ie = s.ie ∧ t.mask = s.mask ∧ t.run = s.run ∧ KeepsSequencer s t ∧
      Transacts [fetchOf s s.pc, .ioRead p8 t.a] s t

/-- R156: `OUT p8` sends `A` to the port and changes no other state (the spec's decision D19,
notes/assumptions/19.md). -/
def Obligations.OutWritesThePort : Prop :=
  ∀ (p8 : Byte) (s : State),
    encode (.outPort p8) = [0xD3, p8] ∧
    ∃ t, exec (.outPort p8) s = .next t ∧ t.pc = s.pc + 1 ∧ t.sp = s.sp ∧ t.f = s.f ∧
      KeepsRegsBut [] s t ∧ KeepsMemory s t ∧ KeepsControl s t ∧
      Transacts [fetchOf s s.pc, .ioWrite p8 s.a] s t ∧
      outputTrace t = outputTrace s ++ [.ioWrite p8 s.a]

/-- R157, R158: `EI` sets `IE`, `DI` clears it; neither changes anything else, `PENDING` included. -/
def Obligations.EiAndDiWriteOnlyIe : Prop :=
  encode .ei = [0xFB] ∧ encode .di = [0xF3] ∧
  ∀ s : State,
    (∃ t, exec .ei s = .next t ∧ t.ie = true ∧ t.pc = s.pc ∧ t.sp = s.sp ∧ t.f = s.f ∧
      KeepsRegsBut [] s t ∧ KeepsMemory s t ∧ t.mask = s.mask ∧ t.run = s.run ∧
      KeepsSequencer s t ∧ KeepsIo s t ∧ Transacts [] s t) ∧
    ∃ t, exec .di s = .next t ∧ t.ie = false ∧ t.pc = s.pc ∧ t.sp = s.sp ∧ t.f = s.f ∧
      KeepsRegsBut [] s t ∧ KeepsMemory s t ∧ t.mask = s.mask ∧ t.run = s.run ∧
      KeepsSequencer s t ∧ KeepsIo s t ∧ Transacts [] s t

/-- R159: `SIM` overwrites `MASK` with `A[2:0]` when `A[3]` is set, bit `i` for line `i`, and is otherwise
a no-op; `A`, `IE` and `PENDING` stay. That bit `i` belongs to line `i` is the spec's decision D12
(notes/assumptions/20.md). -/
def Obligations.SimSetsTheMask : Prop :=
  encode .sim = [0x30] ∧
  ∀ s : State, ∃ t, exec .sim s = .next t ∧
    (s.a.getLsbD 3 = true → ∀ k : Fin 3, t.mask.getLsbD k = s.a.getLsbD k) ∧
    (s.a.getLsbD 3 = false → t.mask = s.mask) ∧
    t.pc = s.pc ∧ t.sp = s.sp ∧ t.f = s.f ∧ KeepsRegsBut [] s t ∧ KeepsMemory s t ∧ t.ie = s.ie ∧
    t.run = s.run ∧ KeepsSequencer s t ∧ KeepsIo s t ∧ Transacts [] s t

/-- R157, R206: `EI` has no delay: with a request already pending, the step that executes `EI` takes it
before the next instruction. -/
def Obligations.EiTakesAPendingRequestAtOnce : Prop :=
  ∀ (s : State) (p : Pending),
    s.run = true → s.fault = none → s.phase = .exec → s.schedule = [] → s.pending = some p →
    memByte s s.pc = 0xFB →
    ∃ t, step s = .next t ∧ t.pc = 0x002C + BitVec.ofNat 16 p.line.val * 8 ∧ t.ie = false ∧
      t.pending = none ∧ t.sp = s.sp - 2 ∧ memByte t (s.sp - 1) = hiByte (s.pc + 1) ∧
      memByte t (s.sp - 2) = loByte (s.pc + 1) ∧ t.mask = s.mask

/-! ## Interrupts and the trap -/

/-- R175: a request on a masked line is dropped; on an unmasked line it becomes the pending request,
whatever was pending and whatever `IE` is; nothing else changes. The third clause, that a line outside 0..2 is
refused, rests on the spec's own decision D30 and is the model's reading of it (notes/assumptions/21.md,
DEDUCED). -/
def Obligations.RequestIsMaskedAtRequestTime : Prop :=
  ∀ (c : Config) (token : Option Token) (s : State),
    (∀ line : Fin 3, s.mask.getLsbD line = true →
      applyEvent c (.request line token) s = .next s) ∧
    (∀ line : Fin 3, s.mask.getLsbD line = false →
      applyEvent c (.request line token) s = .next { s with pending := some ⟨line, token⟩ }) ∧
    ∀ line : Nat, 3 ≤ line →
      applyEvent c (.request line token) s = .refused (.requestOutsideInterface line)

/-- R178: no priority: of any sequence of requests at a boundary the last one on an unmasked line is the
pending request; if all were masked, the record is as before. -/
def Obligations.LastAcceptedRequestWins : Prop :=
  ∀ (c : Config) (requests : List Pending) (s : State),
    applyEvents c (requests.map fun p => .request p.line.val p.token) s =
      .next { s with
        pending := ((requests.filter fun p => !s.mask.getLsbD p.line.val).getLast?).or s.pending }

/-- R176, R177: the service of a pending request with `IE = 1`: the acknowledge first, if there is a token,
then the two writes of the vector call; `IE` and `PENDING` cleared, `PC` at the line's vector; `MASK` and
every register as before. With `IE = 0` or nothing pending it does nothing. -/
def Obligations.ServiceTakesThePendingRequest : Prop :=
  ∀ (c : Config) (s : State),
    (∀ p : Pending, s.ie = true → s.pending = some p →
      (service c s).ie = false ∧ (service c s).pending = none ∧
      (service c s).pc = c.intVectorBase + BitVec.ofNat 16 p.line.val * c.rstStride ∧
      (service c s).sp = s.sp - 2 ∧
      memByte (service c s) (s.sp - 1) = hiByte s.pc ∧
      memByte (service c s) (s.sp - 2) = loByte s.pc ∧
      KeepsMemoryBut [s.sp - 1, s.sp - 2] s (service c s) ∧ KeepsRegsBut [] s (service c s) ∧
      (service c s).f = s.f ∧ (service c s).mask = s.mask ∧ (service c s).run = s.run ∧
      (service c s).fault = s.fault ∧
      Transacts ((p.token.toList.map .intAck) ++
        [.memWrite (s.sp - 1) (hiByte s.pc), .memWrite (s.sp - 2) (loByte s.pc)]) s (service c s)) ∧
    ((s.ie = false ∨ s.pending = none) → service c s = s)

/-- R179: the trap calls its vector whatever `IE`, `MASK` and `PENDING` hold, and changes none of them, nor
`RUN`, `FAULT` or a register; it emits no acknowledge. -/
def Obligations.TrapCallsItsVector : Prop :=
  ∀ (c : Config) (s : State), ∃ t, applyEvent c .trap s = .next t ∧
    t.pc = c.trapVector ∧ t.sp = s.sp - 2 ∧ memByte t (s.sp - 1) = hiByte s.pc ∧
    memByte t (s.sp - 2) = loByte s.pc ∧ KeepsMemoryBut [s.sp - 1, s.sp - 2] s t ∧
    KeepsRegsBut [] s t ∧ t.f = s.f ∧ KeepsControl s t ∧ outputTrace t = outputTrace s

/-- R178 point 4: with a trap at the boundary between the phases the interrupt is entered from inside the trap
handler: the trap's frame is the outer one and the interrupt returns to the trap vector. That the events of both
boundaries of the step leave the schedule (`t.schedule = later`) is the model's own form of the external events
(DESIGN CHOICE, notes/assumptions/11.md). -/
def Obligations.TrapBeforeServiceNests : Prop :=
  ∀ (s : State) (p : Pending) (later : List (List Event)),
    s.phase = .service → s.fault = none → s.ie = true → s.pending = some p →
    s.schedule = [.trap] :: [] :: later →
    ∃ t, finishStep config s = .next t ∧ t.pc = 0x002C + BitVec.ofNat 16 p.line.val * 8 ∧
      t.sp = s.sp - 4 ∧ memByte t (s.sp - 1) = hiByte s.pc ∧ memByte t (s.sp - 2) = loByte s.pc ∧
      memByte t (s.sp - 3) = 0x00 ∧ memByte t (s.sp - 4) = 0x24 ∧ t.schedule = later

/-! ## Faults and stopped machines -/

/-- R171, R172, R76: an illegal opcode byte latches `InvalidOpcode` with the byte and its address, leaves
`PC` one past it, and the step ends: no `Service` phase, `IE`, `MASK`, `PENDING`, `RUN`, the registers and
memory as before. -/
def Obligations.IllegalOpcodeLatchesTheFault : Prop :=
  ∀ s : State, s.run = true → s.fault = none → s.phase = .exec → s.schedule = [] →
    memByte s s.pc ∈ illegalBytes →
    ∃ t, step s = .next t ∧ t.fault = some (.invalidOpcode (memByte s s.pc) s.pc) ∧
      t.pc = s.pc + 1 ∧ t.ir = memByte s s.pc ∧ t.sp = s.sp ∧ t.f = s.f ∧ t.ie = s.ie ∧
      t.mask = s.mask ∧ t.pending = s.pending ∧ t.run = s.run ∧ KeepsRegsBut [] s t ∧
      KeepsMemory s t ∧ KeepsIo s t ∧ Transacts [fetchOf s s.pc] s t

/-- R172, R77, R190: a faulted machine and a halted machine take no phase: with no external event they have
no step; with events scheduled, exactly those of the next boundary are applied. -/
def Obligations.StoppedMachineTakesNoPhase : Prop :=
  ∀ s : State,
    (∀ r, s.fault = some r → s.schedule = [] → step s = .fault (.faulted r)) ∧
    (IsHalted s → s.phase = .exec → s.schedule = [] → step s = .fault .halted) ∧
    ∀ evs rest, s.schedule = evs :: rest → (s.fault ≠ none ∨ (s.run = false ∧ s.phase = .exec)) →
      step s = applyEvents config evs { s with schedule := rest }

/-- R21: a latched fault is never changed but by a reset. -/
def Obligations.FaultStaysUntilReset : Prop :=
  ∀ s t : State, step s = .next t → s.fault ≠ none → (∀ evs ∈ s.schedule, Event.reset ∉ evs) →
    t.fault = s.fault

/-- R20, R190: no step sets `RUN` but through a reset: no interrupt, request or trap wakes a halted
machine. -/
def Obligations.RunIsSetOnlyByReset : Prop :=
  ∀ s t : State, step s = .next t → s.run = false → (∀ evs ∈ s.schedule, Event.reset ∉ evs) →
    t.run = false

/-- R170: `InvalidByte` is unreachable on the 8-bit bus: no step latches it. -/
def Obligations.InvalidByteIsUnreachable : Prop :=
  ∀ s t : State, step s = .next t →
    ∀ value addr, t.fault = some (.invalidByte value addr) → s.fault = some (.invalidByte value addr)

/-! ## Rules about all instructions -/

/-- R173, R185: every instruction, in every state, answers a next state: none of them faults, refuses or is
privileged, under any configuration. -/
def Obligations.EveryInstructionCompletes : Prop :=
  (∀ (i : Instr) (s : State), ∃ t, exec i s = .next t ∧ t.fault = s.fault) ∧
  ∀ (c : Config) (i : Instr) (s : State), ∃ t, execWith c i s = .next t ∧ t.fault = s.fault

/-- R10: a general register is written only by the instructions of its row, and `F` only by `POP PSW` and
the ALU instructions. -/
def Obligations.OnlyListedInstructionsWriteRegisters : Prop :=
  ∀ (i : Instr) (s t : State), exec i s = .next t →
    (∀ r, mayWriteReg i.asm r = false → getReg r t = getReg r s) ∧
    (mayWriteFlags i.asm = false → t.f = s.f)

/-- R15, R17, R18, R19, R20, R35: among the instructions only `LXI SP`, `PUSH`, `POP`, `RST`, `RET` write
`SP`; only `EI` and `DI` write `IE`; only `SIM` writes `MASK`; only `HLT` writes `RUN`; none writes
`PENDING`; only stores, `PUSH` and `RST` write memory. -/
def Obligations.OnlyListedInstructionsWriteControlState : Prop :=
  ∀ (i : Instr) (s t : State), exec i s = .next t →
    (mayWriteStackPointer i.asm = false → t.sp = s.sp) ∧
    (i ≠ .ei → i ≠ .di → t.ie = s.ie) ∧
    (i ≠ .sim → t.mask = s.mask) ∧
    (i ≠ .hlt → t.run = s.run) ∧
    (mayWriteMemory i.asm = false → KeepsMemory s t) ∧
    KeepsSequencer s t

/-- R17, R18, R19: no instruction reads `IE`, `MASK` or `PENDING`: with other values in them an instruction
does the same to the registers, `SP`, `PC`, memory and the history. -/
def Obligations.NoInstructionReadsInterruptState : Prop :=
  ∀ (i : Instr) (s t : State) (ie : Bool) (mask : BitVec 3) (pending : Option Pending),
    exec i s = .next t →
    ∃ t', exec i { s with ie := ie, mask := mask, pending := pending } = .next t' ∧
      (∀ r, getReg r t' = getReg r t) ∧ t'.f = t.f ∧ t'.pc = t.pc ∧ t'.sp = t.sp ∧
      t'.mem = t.mem ∧ t'.history = t.history ∧ t'.run = t.run ∧ t'.pending = pending

/-! ## Reset -/

/-- R200: what `Reset` writes, with any parameters and from any state; it leaves every byte of memory but
the seeded one as it was. That `IR` too is as it was (`t.ir = s.ir`) is the model's choice: R26 gives `IR` after
reset as unspecified and R200 does not name it (notes/assumptions/17.md, DEDUCED). -/
def Obligations.ResetWritesItsValues : Prop :=
  ∀ (c : Config) (s : State), ∃ t, applyEvent c .reset s = .next t ∧
    t.mask = 0 ∧ t.pending = none ∧ t.ie = c.resetIe ∧ t.run = true ∧ t.fault = none ∧
    t.pc = c.resetPc ∧ t.sp = c.resetRegs.sp ∧ t.f = c.resetRegs.f ∧ t.a = c.resetRegs.a ∧
    t.b = c.resetRegs.b ∧ t.c = c.resetRegs.c ∧ t.d = c.resetRegs.d ∧ t.e = c.resetRegs.e ∧
    t.h = c.resetRegs.h ∧ t.l = c.resetRegs.l ∧ t.phase = .exec ∧
    memByte t c.haltSeedAddr = c.haltOpcode ∧ KeepsMemoryBut [c.haltSeedAddr] s t ∧ t.ir = s.ir ∧
    Transacts [.memWrite c.haltSeedAddr c.haltOpcode] s t

/-- R26: the values of the spec's reset table that are not OPEN, in `State.reset`; and under any configuration
the parameters where the table names them, OPEN ones among them. -/
def Obligations.ResetStateValues : Prop :=
  State.reset.mask = 0 ∧ State.reset.pending = none ∧ State.reset.run = true ∧
  State.reset.fault = none ∧ State.reset.pc = 0x0000 ∧ State.reset.phase = .exec ∧
  memByte State.reset 0x0000 = 0x76 ∧ State.reset = State.resetWith config ∧
  ∀ c : Config,
    let t := State.resetWith c
    t.mask = 0 ∧ t.pending = none ∧ t.ie = c.resetIe ∧ t.run = true ∧ t.fault = none ∧
    t.pc = c.resetPc ∧ t.sp = c.resetRegs.sp ∧ t.f = c.resetRegs.f ∧ t.a = c.resetRegs.a ∧
    t.b = c.resetRegs.b ∧ t.c = c.resetRegs.c ∧ t.d = c.resetRegs.d ∧ t.e = c.resetRegs.e ∧
    t.h = c.resetRegs.h ∧ t.l = c.resetRegs.l ∧ t.phase = .exec ∧
    memByte t c.haltSeedAddr = c.haltOpcode

/-- R201: after reset with nothing loaded, the first instruction is the seeded `HLT`: one step, then the
machine is halted with `PC = 0x0001` and has no further step. -/
def Obligations.BareResetHaltsInOneStep : Prop :=
  ∃ t, step State.reset = .next t ∧ t.pc = 0x0001 ∧ IsHalted t ∧ step t = .fault .halted

/-! ## Invariants -/

/-- R74, R24: every step from a state with memory in its canonical form and the `Exec` phase to come ends
in such a state, whatever external events were scheduled and under any configuration. -/
def Obligations.StepKeepsTheInvariant : Prop :=
  (∀ s t : State, StepInv s → step s = .next t → StepInv t) ∧
  ∀ (c : Config) (s t : State), StepInv s → stepWith c s = .next t → StepInv t

/-- The reset state, under any configuration, meets the invariant, and its bus is coherent with the launch
memory in which every byte is the free value of its address, of which nothing is assumed (U5,
notes/assumptions/1.md). -/
def Obligations.ResetMeetsTheInvariants : Prop :=
  (StepInv State.reset ∧ BusCoherent (fun x => Config.launchByte x.toNat) State.reset) ∧
  ∀ c : Config, StepInv (State.resetWith c) ∧
    BusCoherent (fun x => Config.launchByte x.toNat) (State.resetWith c)

/-- R40, R31: every step keeps the bus coherent with any launch memory: memory holds the latest write to
each address, or the launch value, and every read in the history, instruction fetches included, gave the
latest earlier write to its address; under any configuration. -/
def Obligations.StepKeepsTheBusCoherent : Prop :=
  (∀ (launch : Word → Byte) (s t : State), BusCoherent launch s → step s = .next t →
    BusCoherent launch t) ∧
  ∀ (c : Config) (launch : Word → Byte) (s t : State), BusCoherent launch s →
    stepWith c s = .next t → BusCoherent launch t

/-- R40: a step only adds to the history: transactions are never lost or reordered. -/
def Obligations.HistoryOnlyGrows : Prop :=
  ∀ s t : State, step s = .next t → ∃ new, t.history = new ++ s.history
end

