-- ==== Sys2Proof/Laws/Config.lean ====
section
/-! SUPPORT. The sizes of the configuration (spec/00_scope.md R5) are those of the model's types, for every
configuration. -/

namespace Sys2Proof

/-- `XLEN` is the width of a Byte. -/
theorem Config.byte_eq (c : Config) : Byte = BitVec c.xlen := by rw [c.xlen_eq]

/-- `ALEN` is the width of a Word, the type of every memory address. -/
theorem Config.word_eq (c : Config) : Word = BitVec c.alen := by rw [c.alen_eq]

/-- `IOLEN` is the width of a port address, a Byte. -/
theorem Config.port_eq (c : Config) : Byte = BitVec c.iolen := by rw [c.iolen_eq]

/-- `NLINES` is the width of `MASK`. -/
theorem Config.mask_eq (c : Config) : BitVec 3 = BitVec c.nlines := by rw [c.nlines_eq]

/-- `NLINES` is the number of lines a pending request can name. -/
theorem Config.line_eq (c : Config) : Fin 3 = Fin c.nlines := by rw [c.nlines_eq]

end Sys2Proof
end

