-- ==== Sys2Proof/Laws/Memory.lean ====
section
/-! SUPPORT. The laws of memory (spec/20_memory.md R31): what a read gives after a write, and that every
memory operation keeps the canonical form, which is canonical. The read laws hold of every list, canonical or not. -/

namespace Sys2Proof.Machine

@[simp] theorem memory_get_erase_same (m : Memory) (a : Nat) :
    Memory.get (Memory.erase m a) a = Config.launchByte a := by
  induction m with
  | nil => rfl
  | cons cell m ih =>
    obtain ⟨k, v⟩ := cell
    by_cases h : k = a <;> simp [Memory.erase, Memory.get, h, ih]

theorem memory_get_erase_other (m : Memory) {a x : Nat} (hx : x ≠ a) :
    Memory.get (Memory.erase m a) x = Memory.get m x := by
  induction m with
  | nil => rfl
  | cons cell m ih =>
    obtain ⟨k, v⟩ := cell
    by_cases h : k = a
    · subst h
      simp [Memory.erase, Memory.get, ih, Ne.symm hx]
    · by_cases hk : k = x
      · subst hk
        simp [Memory.erase, Memory.get, h]
      · simp [Memory.erase, Memory.get, h, hk, ih]

theorem memory_get_insert_same (m : Memory) (a : Nat) (v : Byte)
    (hm : ∀ cell ∈ m, cell.1 ≠ a) : Memory.get (Memory.insert m a v) a = v := by
  induction m with
  | nil => simp [Memory.insert, Memory.get]
  | cons cell m ih =>
    obtain ⟨k, w⟩ := cell
    have hk : k ≠ a := hm (k, w) List.mem_cons_self
    have ih' := ih fun cell hc => hm cell (List.mem_cons_of_mem _ hc)
    by_cases h : a < k <;> simp [Memory.insert, Memory.get, h, hk, ih']

theorem memory_get_insert_other (m : Memory) {a x : Nat} (v : Byte) (hx : x ≠ a) :
    Memory.get (Memory.insert m a v) x = Memory.get m x := by
  induction m with
  | nil => simp [Memory.insert, Memory.get, Ne.symm hx]
  | cons cell m ih =>
    obtain ⟨k, w⟩ := cell
    by_cases h : a < k
    · simp [Memory.insert, Memory.get, h, Ne.symm hx]
    · by_cases hk : k = x
      · subst hk
        simp [Memory.insert, Memory.get, h]
      · simp [Memory.insert, Memory.get, h, hk, ih]

theorem memory_erase_ne (m : Memory) (a : Nat) : ∀ cell ∈ Memory.erase m a, cell.1 ≠ a := by
  induction m with
  | nil => simp [Memory.erase]
  | cons cell m ih =>
    obtain ⟨k, v⟩ := cell
    by_cases h : k = a
    · simpa [Memory.erase, h] using ih
    · intro c hc
      simp only [Memory.erase, h, if_false, List.mem_cons] at hc
      rcases hc with rfl | hc
      · exact h
      · exact ih c hc

/-- R31: a read after a write to the same address gives the value written. -/
@[simp] theorem memory_get_put_same (m : Memory) (a : Nat) (v : Byte) :
    Memory.get (Memory.put m a v) a = v :=
  memory_get_insert_same _ _ _ (memory_erase_ne m a)

/-- R31: a write leaves every other address alone. -/
theorem memory_get_put_other (m : Memory) {a x : Nat} (v : Byte) (hx : x ≠ a) :
    Memory.get (Memory.put m a v) x = Memory.get m x :=
  (memory_get_insert_other _ v hx).trans (memory_get_erase_other m hx)

theorem memory_wfFrom_le {lo lo' : Nat} (h : lo' ≤ lo) {m : Memory}
    (hm : Memory.wfFrom lo m = true) : Memory.wfFrom lo' m = true := by
  cases m with
  | nil => rfl
  | cons cell m =>
    obtain ⟨k, v⟩ := cell
    simp only [Memory.wfFrom, Bool.and_eq_true, decide_eq_true_eq] at hm ⊢
    exact ⟨⟨by omega, hm.1.2⟩, hm.2⟩

theorem memory_erase_wfFrom (a : Nat) (m : Memory) :
    ∀ lo, Memory.wfFrom lo m = true → Memory.wfFrom lo (Memory.erase m a) = true := by
  induction m with
  | nil => intro lo _; rfl
  | cons cell m ih =>
    obtain ⟨k, v⟩ := cell
    intro lo hm
    simp only [Memory.wfFrom, Bool.and_eq_true, decide_eq_true_eq] at hm
    by_cases h : k = a
    · simpa [Memory.erase, h] using
        memory_wfFrom_le (by omega : lo ≤ k + 1) (ih (k + 1) hm.2)
    · simp only [Memory.erase, h, if_false, Memory.wfFrom, Bool.and_eq_true, decide_eq_true_eq]
      exact ⟨hm.1, ih (k + 1) hm.2⟩

theorem memory_insert_wfFrom (a : Nat) (v : Byte) (ha : a < 65536) (m : Memory) (hne : ∀ cell ∈ m, cell.1 ≠ a) :
    ∀ lo, lo ≤ a → Memory.wfFrom lo m = true → Memory.wfFrom lo (Memory.insert m a v) = true := by
  induction m with
  | nil => intro lo hlo _; simp [Memory.insert, Memory.wfFrom, hlo, ha]
  | cons cell m ih =>
    obtain ⟨k, w⟩ := cell
    intro lo hlo hm
    have hk : k ≠ a := hne (k, w) List.mem_cons_self
    simp only [Memory.wfFrom, Bool.and_eq_true, decide_eq_true_eq] at hm
    by_cases h : a < k
    · simp only [Memory.insert, h, if_true, Memory.wfFrom, Bool.and_eq_true, decide_eq_true_eq]
      exact ⟨⟨hlo, ha⟩, ⟨by omega, hm.1.2⟩, hm.2⟩
    · simp only [Memory.insert, h, if_false, Memory.wfFrom, Bool.and_eq_true, decide_eq_true_eq]
      exact ⟨hm.1, ih (fun c hc => hne c (List.mem_cons_of_mem _ hc)) (k + 1) (by omega) hm.2⟩

/-- The one operation that changes memory keeps its canonical form. -/
theorem memory_put_wf {m : Memory} (hm : Memory.wf m = true) (a : Word) (v : Byte) :
    Memory.wf (Memory.put m a.toNat v) = true :=
  memory_insert_wfFrom a.toNat v a.isLt _ (memory_erase_ne m a.toNat) 0 (Nat.zero_le _)
    (memory_erase_wfFrom a.toNat m 0 hm)

/-- Nothing is listed below the lower bound of a canonical memory. -/
theorem memory_lookup_below {m : Memory} :
    ∀ {lo : Nat}, Memory.wfFrom lo m = true → ∀ {a : Nat}, a < lo → m.lookup a = none := by
  induction m with
  | nil => intro lo _ a _; rfl
  | cons cell m ih =>
    obtain ⟨k, v⟩ := cell
    intro lo hm a ha
    simp only [Memory.wfFrom, Bool.and_eq_true, decide_eq_true_eq] at hm
    have hk : (a == k) = false := by simp; omega
    simp only [List.lookup, hk]
    exact ih hm.2 (by omega)

/-- R31: the canonical form is canonical: two memories in it that list the same byte at every address are
the same list. -/
theorem memory_ext {m m' : Memory} : ∀ {lo lo' : Nat}, Memory.wfFrom lo m = true →
    Memory.wfFrom lo' m' = true → (∀ a, m.lookup a = m'.lookup a) → m = m' := by
  induction m generalizing m' with
  | nil =>
    intro lo lo' _ _ h
    cases m' with
    | nil => rfl
    | cons cell _ => have := h cell.1; simp [List.lookup] at this
  | cons cell m ih =>
    obtain ⟨k, v⟩ := cell
    intro lo lo' hm hm' h
    cases m' with
    | nil => have := h k; simp [List.lookup] at this
    | cons cell' m' =>
      obtain ⟨k', v'⟩ := cell'
      simp only [Memory.wfFrom, Bool.and_eq_true, decide_eq_true_eq] at hm hm'
      have hk : k = k' := by
        rcases Nat.lt_trichotomy k k' with hlt | heq | hgt
        · have hn : (k == k') = false := by simp; omega
          have := h k
          simp only [List.lookup, beq_self_eq_true, hn,
            memory_lookup_below hm'.2 (by omega : k < k' + 1)] at this
          cases this
        · exact heq
        · have hn : (k' == k) = false := by simp; omega
          have := h k'
          simp only [List.lookup, beq_self_eq_true, hn,
            memory_lookup_below hm.2 (by omega : k' < k + 1)] at this
          cases this
      subst hk
      have hv := h k
      simp only [List.lookup, beq_self_eq_true, Option.some.injEq] at hv
      subst hv
      refine congrArg _ (ih hm.2 hm'.2 fun a => ?_)
      have ha := h a
      by_cases hak : a = k
      · subst hak
        rw [memory_lookup_below hm.2 (Nat.lt_succ_self a),
          memory_lookup_below hm'.2 (Nat.lt_succ_self a)]
      · have hn : (a == k) = false := by simpa using hak
        simpa only [List.lookup, hn] using ha

end Sys2Proof.Machine
end

