-- ==== Sys2Proof/Laws/State.lean ====
section
/-! SUPPORT. What each named update of the state does to each field: one lemma per field and update, so
that no later proof unfolds a record update. -/

namespace Sys2Proof.Machine

/-! `record` -/

@[simp] theorem record_a (t : Transaction) (s : State) : (record t s).a = s.a := rfl
@[simp] theorem record_b (t : Transaction) (s : State) : (record t s).b = s.b := rfl
@[simp] theorem record_c (t : Transaction) (s : State) : (record t s).c = s.c := rfl
@[simp] theorem record_d (t : Transaction) (s : State) : (record t s).d = s.d := rfl
@[simp] theorem record_e (t : Transaction) (s : State) : (record t s).e = s.e := rfl
@[simp] theorem record_h (t : Transaction) (s : State) : (record t s).h = s.h := rfl
@[simp] theorem record_l (t : Transaction) (s : State) : (record t s).l = s.l := rfl
@[simp] theorem record_f (t : Transaction) (s : State) : (record t s).f = s.f := rfl
@[simp] theorem record_pc (t : Transaction) (s : State) : (record t s).pc = s.pc := rfl
@[simp] theorem record_sp (t : Transaction) (s : State) : (record t s).sp = s.sp := rfl
@[simp] theorem record_ie (t : Transaction) (s : State) : (record t s).ie = s.ie := rfl
@[simp] theorem record_mask (t : Transaction) (s : State) : (record t s).mask = s.mask := rfl
@[simp] theorem record_pending (t : Transaction) (s : State) : (record t s).pending = s.pending := rfl
@[simp] theorem record_run (t : Transaction) (s : State) : (record t s).run = s.run := rfl
@[simp] theorem record_fault (t : Transaction) (s : State) : (record t s).fault = s.fault := rfl
@[simp] theorem record_ir (t : Transaction) (s : State) : (record t s).ir = s.ir := rfl
@[simp] theorem record_mem (t : Transaction) (s : State) : (record t s).mem = s.mem := rfl
@[simp] theorem record_phase (t : Transaction) (s : State) : (record t s).phase = s.phase := rfl
@[simp] theorem record_history (t : Transaction) (s : State) : (record t s).history = t :: s.history := rfl
@[simp] theorem record_ioAnswers (t : Transaction) (s : State) : (record t s).ioAnswers = s.ioAnswers := rfl
@[simp] theorem record_ioDraws (t : Transaction) (s : State) : (record t s).ioDraws = s.ioDraws := rfl
@[simp] theorem record_schedule (t : Transaction) (s : State) : (record t s).schedule = s.schedule := rfl

/-! `memRead_state` -/

@[simp] theorem memRead_state_a (x : Word) (s : State) : ((memRead x s).2).a = s.a := rfl
@[simp] theorem memRead_state_b (x : Word) (s : State) : ((memRead x s).2).b = s.b := rfl
@[simp] theorem memRead_state_c (x : Word) (s : State) : ((memRead x s).2).c = s.c := rfl
@[simp] theorem memRead_state_d (x : Word) (s : State) : ((memRead x s).2).d = s.d := rfl
@[simp] theorem memRead_state_e (x : Word) (s : State) : ((memRead x s).2).e = s.e := rfl
@[simp] theorem memRead_state_h (x : Word) (s : State) : ((memRead x s).2).h = s.h := rfl
@[simp] theorem memRead_state_l (x : Word) (s : State) : ((memRead x s).2).l = s.l := rfl
@[simp] theorem memRead_state_f (x : Word) (s : State) : ((memRead x s).2).f = s.f := rfl
@[simp] theorem memRead_state_pc (x : Word) (s : State) : ((memRead x s).2).pc = s.pc := rfl
@[simp] theorem memRead_state_sp (x : Word) (s : State) : ((memRead x s).2).sp = s.sp := rfl
@[simp] theorem memRead_state_ie (x : Word) (s : State) : ((memRead x s).2).ie = s.ie := rfl
@[simp] theorem memRead_state_mask (x : Word) (s : State) : ((memRead x s).2).mask = s.mask := rfl
@[simp] theorem memRead_state_pending (x : Word) (s : State) : ((memRead x s).2).pending = s.pending := rfl
@[simp] theorem memRead_state_run (x : Word) (s : State) : ((memRead x s).2).run = s.run := rfl
@[simp] theorem memRead_state_fault (x : Word) (s : State) : ((memRead x s).2).fault = s.fault := rfl
@[simp] theorem memRead_state_ir (x : Word) (s : State) : ((memRead x s).2).ir = s.ir := rfl
@[simp] theorem memRead_state_mem (x : Word) (s : State) : ((memRead x s).2).mem = s.mem := rfl
@[simp] theorem memRead_state_phase (x : Word) (s : State) : ((memRead x s).2).phase = s.phase := rfl
@[simp] theorem memRead_state_history (x : Word) (s : State) : ((memRead x s).2).history = .memRead x (memByte s x) :: s.history := rfl
@[simp] theorem memRead_state_ioAnswers (x : Word) (s : State) : ((memRead x s).2).ioAnswers = s.ioAnswers := rfl
@[simp] theorem memRead_state_ioDraws (x : Word) (s : State) : ((memRead x s).2).ioDraws = s.ioDraws := rfl
@[simp] theorem memRead_state_schedule (x : Word) (s : State) : ((memRead x s).2).schedule = s.schedule := rfl

/-! `memWrite` -/

@[simp] theorem memWrite_a (x : Word) (v : Byte) (s : State) : (memWrite x v s).a = s.a := rfl
@[simp] theorem memWrite_b (x : Word) (v : Byte) (s : State) : (memWrite x v s).b = s.b := rfl
@[simp] theorem memWrite_c (x : Word) (v : Byte) (s : State) : (memWrite x v s).c = s.c := rfl
@[simp] theorem memWrite_d (x : Word) (v : Byte) (s : State) : (memWrite x v s).d = s.d := rfl
@[simp] theorem memWrite_e (x : Word) (v : Byte) (s : State) : (memWrite x v s).e = s.e := rfl
@[simp] theorem memWrite_h (x : Word) (v : Byte) (s : State) : (memWrite x v s).h = s.h := rfl
@[simp] theorem memWrite_l (x : Word) (v : Byte) (s : State) : (memWrite x v s).l = s.l := rfl
@[simp] theorem memWrite_f (x : Word) (v : Byte) (s : State) : (memWrite x v s).f = s.f := rfl
@[simp] theorem memWrite_pc (x : Word) (v : Byte) (s : State) : (memWrite x v s).pc = s.pc := rfl
@[simp] theorem memWrite_sp (x : Word) (v : Byte) (s : State) : (memWrite x v s).sp = s.sp := rfl
@[simp] theorem memWrite_ie (x : Word) (v : Byte) (s : State) : (memWrite x v s).ie = s.ie := rfl
@[simp] theorem memWrite_mask (x : Word) (v : Byte) (s : State) : (memWrite x v s).mask = s.mask := rfl
@[simp] theorem memWrite_pending (x : Word) (v : Byte) (s : State) : (memWrite x v s).pending = s.pending := rfl
@[simp] theorem memWrite_run (x : Word) (v : Byte) (s : State) : (memWrite x v s).run = s.run := rfl
@[simp] theorem memWrite_fault (x : Word) (v : Byte) (s : State) : (memWrite x v s).fault = s.fault := rfl
@[simp] theorem memWrite_ir (x : Word) (v : Byte) (s : State) : (memWrite x v s).ir = s.ir := rfl
@[simp] theorem memWrite_mem (x : Word) (v : Byte) (s : State) : (memWrite x v s).mem = Memory.put s.mem x.toNat v := rfl
@[simp] theorem memWrite_phase (x : Word) (v : Byte) (s : State) : (memWrite x v s).phase = s.phase := rfl
@[simp] theorem memWrite_history (x : Word) (v : Byte) (s : State) : (memWrite x v s).history = .memWrite x v :: s.history := rfl
@[simp] theorem memWrite_ioAnswers (x : Word) (v : Byte) (s : State) : (memWrite x v s).ioAnswers = s.ioAnswers := rfl
@[simp] theorem memWrite_ioDraws (x : Word) (v : Byte) (s : State) : (memWrite x v s).ioDraws = s.ioDraws := rfl
@[simp] theorem memWrite_schedule (x : Word) (v : Byte) (s : State) : (memWrite x v s).schedule = s.schedule := rfl

/-! `ioRead_state` -/

@[simp] theorem ioRead_state_a (p : Byte) (s : State) : ((ioRead p s).2).a = s.a := rfl
@[simp] theorem ioRead_state_b (p : Byte) (s : State) : ((ioRead p s).2).b = s.b := rfl
@[simp] theorem ioRead_state_c (p : Byte) (s : State) : ((ioRead p s).2).c = s.c := rfl
@[simp] theorem ioRead_state_d (p : Byte) (s : State) : ((ioRead p s).2).d = s.d := rfl
@[simp] theorem ioRead_state_e (p : Byte) (s : State) : ((ioRead p s).2).e = s.e := rfl
@[simp] theorem ioRead_state_h (p : Byte) (s : State) : ((ioRead p s).2).h = s.h := rfl
@[simp] theorem ioRead_state_l (p : Byte) (s : State) : ((ioRead p s).2).l = s.l := rfl
@[simp] theorem ioRead_state_f (p : Byte) (s : State) : ((ioRead p s).2).f = s.f := rfl
@[simp] theorem ioRead_state_pc (p : Byte) (s : State) : ((ioRead p s).2).pc = s.pc := rfl
@[simp] theorem ioRead_state_sp (p : Byte) (s : State) : ((ioRead p s).2).sp = s.sp := rfl
@[simp] theorem ioRead_state_ie (p : Byte) (s : State) : ((ioRead p s).2).ie = s.ie := rfl
@[simp] theorem ioRead_state_mask (p : Byte) (s : State) : ((ioRead p s).2).mask = s.mask := rfl
@[simp] theorem ioRead_state_pending (p : Byte) (s : State) : ((ioRead p s).2).pending = s.pending := rfl
@[simp] theorem ioRead_state_run (p : Byte) (s : State) : ((ioRead p s).2).run = s.run := rfl
@[simp] theorem ioRead_state_fault (p : Byte) (s : State) : ((ioRead p s).2).fault = s.fault := rfl
@[simp] theorem ioRead_state_ir (p : Byte) (s : State) : ((ioRead p s).2).ir = s.ir := rfl
@[simp] theorem ioRead_state_mem (p : Byte) (s : State) : ((ioRead p s).2).mem = s.mem := rfl
@[simp] theorem ioRead_state_phase (p : Byte) (s : State) : ((ioRead p s).2).phase = s.phase := rfl
@[simp] theorem ioRead_state_history (p : Byte) (s : State) : ((ioRead p s).2).history = .ioRead p (ioAnswer p s) :: s.history := rfl
@[simp] theorem ioRead_state_ioAnswers (p : Byte) (s : State) : ((ioRead p s).2).ioAnswers = s.ioAnswers.tail := rfl
@[simp] theorem ioRead_state_ioDraws (p : Byte) (s : State) : ((ioRead p s).2).ioDraws = if s.ioAnswers = [] then s.ioDraws + 1 else s.ioDraws := rfl
@[simp] theorem ioRead_state_schedule (p : Byte) (s : State) : ((ioRead p s).2).schedule = s.schedule := rfl

/-! `ioWrite` -/

@[simp] theorem ioWrite_a (p v : Byte) (s : State) : (ioWrite p v s).a = s.a := rfl
@[simp] theorem ioWrite_b (p v : Byte) (s : State) : (ioWrite p v s).b = s.b := rfl
@[simp] theorem ioWrite_c (p v : Byte) (s : State) : (ioWrite p v s).c = s.c := rfl
@[simp] theorem ioWrite_d (p v : Byte) (s : State) : (ioWrite p v s).d = s.d := rfl
@[simp] theorem ioWrite_e (p v : Byte) (s : State) : (ioWrite p v s).e = s.e := rfl
@[simp] theorem ioWrite_h (p v : Byte) (s : State) : (ioWrite p v s).h = s.h := rfl
@[simp] theorem ioWrite_l (p v : Byte) (s : State) : (ioWrite p v s).l = s.l := rfl
@[simp] theorem ioWrite_f (p v : Byte) (s : State) : (ioWrite p v s).f = s.f := rfl
@[simp] theorem ioWrite_pc (p v : Byte) (s : State) : (ioWrite p v s).pc = s.pc := rfl
@[simp] theorem ioWrite_sp (p v : Byte) (s : State) : (ioWrite p v s).sp = s.sp := rfl
@[simp] theorem ioWrite_ie (p v : Byte) (s : State) : (ioWrite p v s).ie = s.ie := rfl
@[simp] theorem ioWrite_mask (p v : Byte) (s : State) : (ioWrite p v s).mask = s.mask := rfl
@[simp] theorem ioWrite_pending (p v : Byte) (s : State) : (ioWrite p v s).pending = s.pending := rfl
@[simp] theorem ioWrite_run (p v : Byte) (s : State) : (ioWrite p v s).run = s.run := rfl
@[simp] theorem ioWrite_fault (p v : Byte) (s : State) : (ioWrite p v s).fault = s.fault := rfl
@[simp] theorem ioWrite_ir (p v : Byte) (s : State) : (ioWrite p v s).ir = s.ir := rfl
@[simp] theorem ioWrite_mem (p v : Byte) (s : State) : (ioWrite p v s).mem = s.mem := rfl
@[simp] theorem ioWrite_phase (p v : Byte) (s : State) : (ioWrite p v s).phase = s.phase := rfl
@[simp] theorem ioWrite_history (p v : Byte) (s : State) : (ioWrite p v s).history = .ioWrite p v :: s.history := rfl
@[simp] theorem ioWrite_ioAnswers (p v : Byte) (s : State) : (ioWrite p v s).ioAnswers = s.ioAnswers := rfl
@[simp] theorem ioWrite_ioDraws (p v : Byte) (s : State) : (ioWrite p v s).ioDraws = s.ioDraws := rfl
@[simp] theorem ioWrite_schedule (p v : Byte) (s : State) : (ioWrite p v s).schedule = s.schedule := rfl

/-! `raise` -/

@[simp] theorem raise_a (r : FaultRecord) (s : State) : (raise r s).a = s.a := rfl
@[simp] theorem raise_b (r : FaultRecord) (s : State) : (raise r s).b = s.b := rfl
@[simp] theorem raise_c (r : FaultRecord) (s : State) : (raise r s).c = s.c := rfl
@[simp] theorem raise_d (r : FaultRecord) (s : State) : (raise r s).d = s.d := rfl
@[simp] theorem raise_e (r : FaultRecord) (s : State) : (raise r s).e = s.e := rfl
@[simp] theorem raise_h (r : FaultRecord) (s : State) : (raise r s).h = s.h := rfl
@[simp] theorem raise_l (r : FaultRecord) (s : State) : (raise r s).l = s.l := rfl
@[simp] theorem raise_f (r : FaultRecord) (s : State) : (raise r s).f = s.f := rfl
@[simp] theorem raise_pc (r : FaultRecord) (s : State) : (raise r s).pc = s.pc := rfl
@[simp] theorem raise_sp (r : FaultRecord) (s : State) : (raise r s).sp = s.sp := rfl
@[simp] theorem raise_ie (r : FaultRecord) (s : State) : (raise r s).ie = s.ie := rfl
@[simp] theorem raise_mask (r : FaultRecord) (s : State) : (raise r s).mask = s.mask := rfl
@[simp] theorem raise_pending (r : FaultRecord) (s : State) : (raise r s).pending = s.pending := rfl
@[simp] theorem raise_run (r : FaultRecord) (s : State) : (raise r s).run = s.run := rfl
@[simp] theorem raise_fault (r : FaultRecord) (s : State) : (raise r s).fault = some r := rfl
@[simp] theorem raise_ir (r : FaultRecord) (s : State) : (raise r s).ir = s.ir := rfl
@[simp] theorem raise_mem (r : FaultRecord) (s : State) : (raise r s).mem = s.mem := rfl
@[simp] theorem raise_phase (r : FaultRecord) (s : State) : (raise r s).phase = s.phase := rfl
@[simp] theorem raise_history (r : FaultRecord) (s : State) : (raise r s).history = s.history := rfl
@[simp] theorem raise_ioAnswers (r : FaultRecord) (s : State) : (raise r s).ioAnswers = s.ioAnswers := rfl
@[simp] theorem raise_ioDraws (r : FaultRecord) (s : State) : (raise r s).ioDraws = s.ioDraws := rfl
@[simp] theorem raise_schedule (r : FaultRecord) (s : State) : (raise r s).schedule = s.schedule := rfl

/-! `setReg` -/

@[simp] theorem setReg_f (r : Reg) (v : Byte) (s : State) : (setReg r v s).f = s.f := by cases r <;> rfl
@[simp] theorem setReg_pc (r : Reg) (v : Byte) (s : State) : (setReg r v s).pc = s.pc := by cases r <;> rfl
@[simp] theorem setReg_sp (r : Reg) (v : Byte) (s : State) : (setReg r v s).sp = s.sp := by cases r <;> rfl
@[simp] theorem setReg_ie (r : Reg) (v : Byte) (s : State) : (setReg r v s).ie = s.ie := by cases r <;> rfl
@[simp] theorem setReg_mask (r : Reg) (v : Byte) (s : State) : (setReg r v s).mask = s.mask := by cases r <;> rfl
@[simp] theorem setReg_pending (r : Reg) (v : Byte) (s : State) : (setReg r v s).pending = s.pending := by cases r <;> rfl
@[simp] theorem setReg_run (r : Reg) (v : Byte) (s : State) : (setReg r v s).run = s.run := by cases r <;> rfl
@[simp] theorem setReg_fault (r : Reg) (v : Byte) (s : State) : (setReg r v s).fault = s.fault := by cases r <;> rfl
@[simp] theorem setReg_ir (r : Reg) (v : Byte) (s : State) : (setReg r v s).ir = s.ir := by cases r <;> rfl
@[simp] theorem setReg_mem (r : Reg) (v : Byte) (s : State) : (setReg r v s).mem = s.mem := by cases r <;> rfl
@[simp] theorem setReg_phase (r : Reg) (v : Byte) (s : State) : (setReg r v s).phase = s.phase := by cases r <;> rfl
@[simp] theorem setReg_history (r : Reg) (v : Byte) (s : State) : (setReg r v s).history = s.history := by cases r <;> rfl
@[simp] theorem setReg_ioAnswers (r : Reg) (v : Byte) (s : State) : (setReg r v s).ioAnswers = s.ioAnswers := by cases r <;> rfl
@[simp] theorem setReg_ioDraws (r : Reg) (v : Byte) (s : State) : (setReg r v s).ioDraws = s.ioDraws := by cases r <;> rfl
@[simp] theorem setReg_schedule (r : Reg) (v : Byte) (s : State) : (setReg r v s).schedule = s.schedule := by cases r <;> rfl

/-! `wrPair` -/

@[simp] theorem wrPair_pc (p : Pair) (w : Word) (s : State) : (wrPair p w s).pc = s.pc := by cases p <;> rfl
@[simp] theorem wrPair_sp (p : Pair) (w : Word) (s : State) : (wrPair p w s).sp = s.sp := by cases p <;> rfl
@[simp] theorem wrPair_ie (p : Pair) (w : Word) (s : State) : (wrPair p w s).ie = s.ie := by cases p <;> rfl
@[simp] theorem wrPair_mask (p : Pair) (w : Word) (s : State) : (wrPair p w s).mask = s.mask := by cases p <;> rfl
@[simp] theorem wrPair_pending (p : Pair) (w : Word) (s : State) : (wrPair p w s).pending = s.pending := by cases p <;> rfl
@[simp] theorem wrPair_run (p : Pair) (w : Word) (s : State) : (wrPair p w s).run = s.run := by cases p <;> rfl
@[simp] theorem wrPair_fault (p : Pair) (w : Word) (s : State) : (wrPair p w s).fault = s.fault := by cases p <;> rfl
@[simp] theorem wrPair_ir (p : Pair) (w : Word) (s : State) : (wrPair p w s).ir = s.ir := by cases p <;> rfl
@[simp] theorem wrPair_mem (p : Pair) (w : Word) (s : State) : (wrPair p w s).mem = s.mem := by cases p <;> rfl
@[simp] theorem wrPair_phase (p : Pair) (w : Word) (s : State) : (wrPair p w s).phase = s.phase := by cases p <;> rfl
@[simp] theorem wrPair_history (p : Pair) (w : Word) (s : State) : (wrPair p w s).history = s.history := by cases p <;> rfl
@[simp] theorem wrPair_ioAnswers (p : Pair) (w : Word) (s : State) : (wrPair p w s).ioAnswers = s.ioAnswers := by cases p <;> rfl
@[simp] theorem wrPair_ioDraws (p : Pair) (w : Word) (s : State) : (wrPair p w s).ioDraws = s.ioDraws := by cases p <;> rfl
@[simp] theorem wrPair_schedule (p : Pair) (w : Word) (s : State) : (wrPair p w s).schedule = s.schedule := by cases p <;> rfl

/-! `emitIntAck` -/

@[simp] theorem emitIntAck_a (k : Option Token) (s : State) : (emitIntAck k s).a = s.a := by cases k <;> rfl
@[simp] theorem emitIntAck_b (k : Option Token) (s : State) : (emitIntAck k s).b = s.b := by cases k <;> rfl
@[simp] theorem emitIntAck_c (k : Option Token) (s : State) : (emitIntAck k s).c = s.c := by cases k <;> rfl
@[simp] theorem emitIntAck_d (k : Option Token) (s : State) : (emitIntAck k s).d = s.d := by cases k <;> rfl
@[simp] theorem emitIntAck_e (k : Option Token) (s : State) : (emitIntAck k s).e = s.e := by cases k <;> rfl
@[simp] theorem emitIntAck_h (k : Option Token) (s : State) : (emitIntAck k s).h = s.h := by cases k <;> rfl
@[simp] theorem emitIntAck_l (k : Option Token) (s : State) : (emitIntAck k s).l = s.l := by cases k <;> rfl
@[simp] theorem emitIntAck_f (k : Option Token) (s : State) : (emitIntAck k s).f = s.f := by cases k <;> rfl
@[simp] theorem emitIntAck_pc (k : Option Token) (s : State) : (emitIntAck k s).pc = s.pc := by cases k <;> rfl
@[simp] theorem emitIntAck_sp (k : Option Token) (s : State) : (emitIntAck k s).sp = s.sp := by cases k <;> rfl
@[simp] theorem emitIntAck_ie (k : Option Token) (s : State) : (emitIntAck k s).ie = s.ie := by cases k <;> rfl
@[simp] theorem emitIntAck_mask (k : Option Token) (s : State) : (emitIntAck k s).mask = s.mask := by cases k <;> rfl
@[simp] theorem emitIntAck_pending (k : Option Token) (s : State) : (emitIntAck k s).pending = s.pending := by cases k <;> rfl
@[simp] theorem emitIntAck_run (k : Option Token) (s : State) : (emitIntAck k s).run = s.run := by cases k <;> rfl
@[simp] theorem emitIntAck_fault (k : Option Token) (s : State) : (emitIntAck k s).fault = s.fault := by cases k <;> rfl
@[simp] theorem emitIntAck_ir (k : Option Token) (s : State) : (emitIntAck k s).ir = s.ir := by cases k <;> rfl
@[simp] theorem emitIntAck_mem (k : Option Token) (s : State) : (emitIntAck k s).mem = s.mem := by cases k <;> rfl
@[simp] theorem emitIntAck_phase (k : Option Token) (s : State) : (emitIntAck k s).phase = s.phase := by cases k <;> rfl
@[simp] theorem emitIntAck_history (k : Option Token) (s : State) : (emitIntAck k s).history = (k.toList.map .intAck) ++ s.history := by cases k <;> rfl
@[simp] theorem emitIntAck_ioAnswers (k : Option Token) (s : State) : (emitIntAck k s).ioAnswers = s.ioAnswers := by cases k <;> rfl
@[simp] theorem emitIntAck_ioDraws (k : Option Token) (s : State) : (emitIntAck k s).ioDraws = s.ioDraws := by cases k <;> rfl
@[simp] theorem emitIntAck_schedule (k : Option Token) (s : State) : (emitIntAck k s).schedule = s.schedule := by cases k <;> rfl

/-! `push16` -/

@[simp] theorem push16_a (w : Word) (s : State) : (push16 w s).a = s.a := rfl
@[simp] theorem push16_b (w : Word) (s : State) : (push16 w s).b = s.b := rfl
@[simp] theorem push16_c (w : Word) (s : State) : (push16 w s).c = s.c := rfl
@[simp] theorem push16_d (w : Word) (s : State) : (push16 w s).d = s.d := rfl
@[simp] theorem push16_e (w : Word) (s : State) : (push16 w s).e = s.e := rfl
@[simp] theorem push16_h (w : Word) (s : State) : (push16 w s).h = s.h := rfl
@[simp] theorem push16_l (w : Word) (s : State) : (push16 w s).l = s.l := rfl
@[simp] theorem push16_f (w : Word) (s : State) : (push16 w s).f = s.f := rfl
@[simp] theorem push16_pc (w : Word) (s : State) : (push16 w s).pc = s.pc := rfl
@[simp] theorem push16_sp (w : Word) (s : State) : (push16 w s).sp = s.sp - 1#16 - 1#16 := rfl
@[simp] theorem push16_ie (w : Word) (s : State) : (push16 w s).ie = s.ie := rfl
@[simp] theorem push16_mask (w : Word) (s : State) : (push16 w s).mask = s.mask := rfl
@[simp] theorem push16_pending (w : Word) (s : State) : (push16 w s).pending = s.pending := rfl
@[simp] theorem push16_run (w : Word) (s : State) : (push16 w s).run = s.run := rfl
@[simp] theorem push16_fault (w : Word) (s : State) : (push16 w s).fault = s.fault := rfl
@[simp] theorem push16_ir (w : Word) (s : State) : (push16 w s).ir = s.ir := rfl
@[simp] theorem push16_phase (w : Word) (s : State) : (push16 w s).phase = s.phase := rfl
@[simp] theorem push16_history (w : Word) (s : State) : (push16 w s).history = .memWrite (s.sp - 1#16 - 1#16) (loByte w) :: .memWrite (s.sp - 1#16) (hiByte w) :: s.history := rfl
@[simp] theorem push16_ioAnswers (w : Word) (s : State) : (push16 w s).ioAnswers = s.ioAnswers := rfl
@[simp] theorem push16_ioDraws (w : Word) (s : State) : (push16 w s).ioDraws = s.ioDraws := rfl
@[simp] theorem push16_schedule (w : Word) (s : State) : (push16 w s).schedule = s.schedule := rfl

/-! `pop16_state` -/

@[simp] theorem pop16_state_a (s : State) : ((pop16 s).2).a = s.a := rfl
@[simp] theorem pop16_state_b (s : State) : ((pop16 s).2).b = s.b := rfl
@[simp] theorem pop16_state_c (s : State) : ((pop16 s).2).c = s.c := rfl
@[simp] theorem pop16_state_d (s : State) : ((pop16 s).2).d = s.d := rfl
@[simp] theorem pop16_state_e (s : State) : ((pop16 s).2).e = s.e := rfl
@[simp] theorem pop16_state_h (s : State) : ((pop16 s).2).h = s.h := rfl
@[simp] theorem pop16_state_l (s : State) : ((pop16 s).2).l = s.l := rfl
@[simp] theorem pop16_state_f (s : State) : ((pop16 s).2).f = s.f := rfl
@[simp] theorem pop16_state_pc (s : State) : ((pop16 s).2).pc = s.pc := rfl
@[simp] theorem pop16_state_sp (s : State) : ((pop16 s).2).sp = s.sp + 1#16 + 1#16 := rfl
@[simp] theorem pop16_state_ie (s : State) : ((pop16 s).2).ie = s.ie := rfl
@[simp] theorem pop16_state_mask (s : State) : ((pop16 s).2).mask = s.mask := rfl
@[simp] theorem pop16_state_pending (s : State) : ((pop16 s).2).pending = s.pending := rfl
@[simp] theorem pop16_state_run (s : State) : ((pop16 s).2).run = s.run := rfl
@[simp] theorem pop16_state_fault (s : State) : ((pop16 s).2).fault = s.fault := rfl
@[simp] theorem pop16_state_ir (s : State) : ((pop16 s).2).ir = s.ir := rfl
@[simp] theorem pop16_state_mem (s : State) : ((pop16 s).2).mem = s.mem := rfl
@[simp] theorem pop16_state_phase (s : State) : ((pop16 s).2).phase = s.phase := rfl
@[simp] theorem pop16_state_history (s : State) : ((pop16 s).2).history = .memRead (s.sp + 1#16) (memByte s (s.sp + 1#16)) :: .memRead s.sp (memByte s s.sp) :: s.history := rfl
@[simp] theorem pop16_state_ioAnswers (s : State) : ((pop16 s).2).ioAnswers = s.ioAnswers := rfl
@[simp] theorem pop16_state_ioDraws (s : State) : ((pop16 s).2).ioDraws = s.ioDraws := rfl
@[simp] theorem pop16_state_schedule (s : State) : ((pop16 s).2).schedule = s.schedule := rfl

/-! `restart` -/

@[simp] theorem restart_a (v : Word) (s : State) : (restart v s).a = s.a := rfl
@[simp] theorem restart_b (v : Word) (s : State) : (restart v s).b = s.b := rfl
@[simp] theorem restart_c (v : Word) (s : State) : (restart v s).c = s.c := rfl
@[simp] theorem restart_d (v : Word) (s : State) : (restart v s).d = s.d := rfl
@[simp] theorem restart_e (v : Word) (s : State) : (restart v s).e = s.e := rfl
@[simp] theorem restart_h (v : Word) (s : State) : (restart v s).h = s.h := rfl
@[simp] theorem restart_l (v : Word) (s : State) : (restart v s).l = s.l := rfl
@[simp] theorem restart_f (v : Word) (s : State) : (restart v s).f = s.f := rfl
@[simp] theorem restart_pc (v : Word) (s : State) : (restart v s).pc = v := rfl
@[simp] theorem restart_sp (v : Word) (s : State) : (restart v s).sp = s.sp - 1#16 - 1#16 := rfl
@[simp] theorem restart_ie (v : Word) (s : State) : (restart v s).ie = s.ie := rfl
@[simp] theorem restart_mask (v : Word) (s : State) : (restart v s).mask = s.mask := rfl
@[simp] theorem restart_pending (v : Word) (s : State) : (restart v s).pending = s.pending := rfl
@[simp] theorem restart_run (v : Word) (s : State) : (restart v s).run = s.run := rfl
@[simp] theorem restart_fault (v : Word) (s : State) : (restart v s).fault = s.fault := rfl
@[simp] theorem restart_ir (v : Word) (s : State) : (restart v s).ir = s.ir := rfl
@[simp] theorem restart_mem (v : Word) (s : State) : (restart v s).mem = (push16 s.pc s).mem := rfl
@[simp] theorem restart_phase (v : Word) (s : State) : (restart v s).phase = s.phase := rfl
@[simp] theorem restart_history (v : Word) (s : State) : (restart v s).history = (push16 s.pc s).history := rfl
@[simp] theorem restart_ioAnswers (v : Word) (s : State) : (restart v s).ioAnswers = s.ioAnswers := rfl
@[simp] theorem restart_ioDraws (v : Word) (s : State) : (restart v s).ioDraws = s.ioDraws := rfl
@[simp] theorem restart_schedule (v : Word) (s : State) : (restart v s).schedule = s.schedule := rfl

/-! `returnFromStack` -/

@[simp] theorem returnFromStack_a (s : State) : (returnFromStack s).a = s.a := rfl
@[simp] theorem returnFromStack_b (s : State) : (returnFromStack s).b = s.b := rfl
@[simp] theorem returnFromStack_c (s : State) : (returnFromStack s).c = s.c := rfl
@[simp] theorem returnFromStack_d (s : State) : (returnFromStack s).d = s.d := rfl
@[simp] theorem returnFromStack_e (s : State) : (returnFromStack s).e = s.e := rfl
@[simp] theorem returnFromStack_h (s : State) : (returnFromStack s).h = s.h := rfl
@[simp] theorem returnFromStack_l (s : State) : (returnFromStack s).l = s.l := rfl
@[simp] theorem returnFromStack_f (s : State) : (returnFromStack s).f = s.f := rfl
@[simp] theorem returnFromStack_pc (s : State) : (returnFromStack s).pc = (pop16 s).1 := rfl
@[simp] theorem returnFromStack_sp (s : State) : (returnFromStack s).sp = s.sp + 1#16 + 1#16 := rfl
@[simp] theorem returnFromStack_ie (s : State) : (returnFromStack s).ie = s.ie := rfl
@[simp] theorem returnFromStack_mask (s : State) : (returnFromStack s).mask = s.mask := rfl
@[simp] theorem returnFromStack_pending (s : State) : (returnFromStack s).pending = s.pending := rfl
@[simp] theorem returnFromStack_run (s : State) : (returnFromStack s).run = s.run := rfl
@[simp] theorem returnFromStack_fault (s : State) : (returnFromStack s).fault = s.fault := rfl
@[simp] theorem returnFromStack_ir (s : State) : (returnFromStack s).ir = s.ir := rfl
@[simp] theorem returnFromStack_mem (s : State) : (returnFromStack s).mem = s.mem := rfl
@[simp] theorem returnFromStack_phase (s : State) : (returnFromStack s).phase = s.phase := rfl
@[simp] theorem returnFromStack_history (s : State) : (returnFromStack s).history = (pop16 s).2.history := rfl
@[simp] theorem returnFromStack_ioAnswers (s : State) : (returnFromStack s).ioAnswers = s.ioAnswers := rfl
@[simp] theorem returnFromStack_ioDraws (s : State) : (returnFromStack s).ioDraws = s.ioDraws := rfl
@[simp] theorem returnFromStack_schedule (s : State) : (returnFromStack s).schedule = s.schedule := rfl

/-! The registers after a register is written. -/

@[simp] theorem getReg_setReg_same (r : Reg) (v : Byte) (s : State) :
    getReg r (setReg r v s) = v := by cases r <;> rfl

theorem getReg_setReg_other {r q : Reg} (h : q ≠ r) (v : Byte) (s : State) :
    getReg q (setReg r v s) = getReg q s := by
  cases r <;> cases q <;> first | rfl | exact absurd rfl h

@[simp] theorem rdPair_wrPair_same (p : Pair) (w : Word) (s : State) :
    rdPair p (wrPair p w s) = joinBytes (hiByte w) (loByte w) := by cases p <;> rfl

/-! Updates that leave every register alone. -/

@[simp] theorem getReg_record (r : Reg) (t : Transaction) (s : State) :
    getReg r (record t s) = getReg r s := by cases r <;> rfl
@[simp] theorem getReg_memRead (r : Reg) (x : Word) (s : State) :
    getReg r (memRead x s).2 = getReg r s := by cases r <;> rfl
@[simp] theorem getReg_memWrite (r : Reg) (x : Word) (v : Byte) (s : State) :
    getReg r (memWrite x v s) = getReg r s := by cases r <;> rfl
@[simp] theorem getReg_ioRead (r : Reg) (p : Byte) (s : State) :
    getReg r (ioRead p s).2 = getReg r s := by cases r <;> rfl
@[simp] theorem getReg_ioWrite (r : Reg) (p v : Byte) (s : State) :
    getReg r (ioWrite p v s) = getReg r s := by cases r <;> rfl

@[simp] theorem getReg_emitIntAck (r : Reg) (k : Option Token) (s : State) :
    getReg r (emitIntAck k s) = getReg r s := by cases k <;> cases r <;> rfl
@[simp] theorem getReg_push16 (r : Reg) (w : Word) (s : State) :
    getReg r (push16 w s) = getReg r s := by cases r <;> rfl
@[simp] theorem getReg_pop16 (r : Reg) (s : State) :
    getReg r (pop16 s).2 = getReg r s := by cases r <;> rfl
@[simp] theorem getReg_restart (r : Reg) (v : Word) (s : State) :
    getReg r (restart v s) = getReg r s := by cases r <;> rfl

/-! Updates that leave every byte of memory alone. -/

@[simp] theorem memByte_record (x : Word) (t : Transaction) (s : State) :
    memByte (record t s) x = memByte s x := rfl
@[simp] theorem memByte_memRead (x y : Word) (s : State) :
    memByte (memRead y s).2 x = memByte s x := rfl
@[simp] theorem memByte_ioRead (x : Word) (p : Byte) (s : State) :
    memByte (ioRead p s).2 x = memByte s x := rfl
@[simp] theorem memByte_ioWrite (x : Word) (p v : Byte) (s : State) :
    memByte (ioWrite p v s) x = memByte s x := rfl
@[simp] theorem memByte_raise (x : Word) (r : FaultRecord) (s : State) :
    memByte (raise r s) x = memByte s x := rfl
@[simp] theorem memByte_setReg (x : Word) (r : Reg) (v : Byte) (s : State) :
    memByte (setReg r v s) x = memByte s x := by cases r <;> rfl
@[simp] theorem memByte_wrPair (x : Word) (p : Pair) (w : Word) (s : State) :
    memByte (wrPair p w s) x = memByte s x := by cases p <;> rfl

@[simp] theorem memByte_emitIntAck (x : Word) (k : Option Token) (s : State) :
    memByte (emitIntAck k s) x = memByte s x := by cases k <;> rfl
@[simp] theorem memByte_pop16 (x : Word) (s : State) : memByte (pop16 s).2 x = memByte s x := rfl

@[simp] theorem memRead_value (x : Word) (s : State) : (memRead x s).1 = memByte s x := rfl
@[simp] theorem ioRead_value (p : Byte) (s : State) : (ioRead p s).1 = ioAnswer p s := rfl

end Sys2Proof.Machine
end

