-- ==== Sys2Proof/Laws/Ops.lean ====
section
/-! SUPPORT. For each shared operation, one lemma that says everything it does; later proofs cite it and
do not unfold the operation. -/

namespace Sys2Proof.Machine

theorem word_toNat_ne {x y : Word} (h : x ≠ y) : x.toNat ≠ y.toNat := fun e =>
  h (BitVec.eq_of_toNat_eq e)

/-- Two consecutive addresses differ, across the wrap too. -/
theorem word_ne_add_one (x : Word) : x ≠ x + 1 := by bv_omega

/-- R31: a read after a write to the same address. -/
@[simp] theorem memByte_memWrite_same (x : Word) (v : Byte) (s : State) :
    memByte (memWrite x v s) x = v := by simp [memByte]

/-- R31: a write leaves every other address alone. -/
theorem memByte_memWrite_other {x y : Word} (h : y ≠ x) (v : Byte) (s : State) :
    memByte (memWrite x v s) y = memByte s y := by
  simp [memByte, memory_get_put_other s.mem v (word_toNat_ne h)]

/-- The state after one `Fetch()`: the transaction recorded and `PC` advanced. -/
theorem fetch_eq (s : State) :
    fetch s = .byte (memByte s s.pc)
      { s with pc := s.pc + 1, history := .memRead s.pc (memByte s s.pc) :: s.history } := by
  have h : (memByte s s.pc).toNat ≤ 255 := by have := (memByte s s.pc).isLt; omega
  simp [fetch, memRead, record, h]

/-- One operand byte: the rest of the rule runs in the state after the `Fetch()`. -/
theorem operandByte_eq (s : State) (k : State → Result) :
    operandByte s k =
      k { s with pc := s.pc + 1, history := .memRead s.pc (memByte s s.pc) :: s.history } := by
  rw [operandByte, fetch_eq]

/-- Two operand bytes: the rest of the rule runs in the state after both `Fetch()`es. -/
theorem operandWord_eq (s : State) (k : State → Result) :
    operandWord s k =
      k { s with
          pc := s.pc + 1 + 1
          history := .memRead (s.pc + 1) (memByte s (s.pc + 1)) ::
            .memRead s.pc (memByte s s.pc) :: s.history } := by
  rw [operandWord, operandByte_eq, operandByte_eq]
  rfl

/-- R97: everything `Push16(w)` does, as one state. -/
theorem push16_eq (w : Word) (s : State) :
    push16 w s =
      { s with
        sp := s.sp - 1 - 1
        mem := Memory.put (Memory.put s.mem (s.sp - 1).toNat (hiByte w)) (s.sp - 1 - 1).toNat (loByte w)
        history := .memWrite (s.sp - 1 - 1) (loByte w) :: .memWrite (s.sp - 1) (hiByte w) ::
          s.history } := rfl

theorem sp_pred_ne (x : Word) : x - 1 ≠ x - 1 - 1 := fun h =>
  word_ne_add_one (x - 1 - 1) (h.symm.trans (BitVec.sub_add_cancel (x - 1) 1).symm)

/-- R97: the high byte lands at the higher address. -/
@[simp] theorem memByte_push16_high (w : Word) (s : State) :
    memByte (push16 w s) (s.sp - 1#16) = hiByte w := by
  rw [push16_eq]
  exact (memory_get_put_other _ _ (word_toNat_ne (sp_pred_ne s.sp))).trans
    (memory_get_put_same _ _ _)

/-- R97: the low byte lands at the new `SP`. -/
@[simp] theorem memByte_push16_low (w : Word) (s : State) :
    memByte (push16 w s) (s.sp - 1#16 - 1#16) = loByte w := by
  rw [push16_eq]
  exact memory_get_put_same _ _ _

/-- R97: a push writes two bytes and no other. -/
theorem memByte_push16_other {x : Word} (w : Word) (s : State) (h1 : x ≠ s.sp - 1)
    (h2 : x ≠ s.sp - 1 - 1) : memByte (push16 w s) x = memByte s x := by
  rw [push16_eq]
  exact (memory_get_put_other _ _ (word_toNat_ne h2)).trans
    (memory_get_put_other _ _ (word_toNat_ne h1))

/-- R97: what every byte reads as after a push. -/
theorem memByte_push16 (w : Word) (s : State) (x : Word) :
    memByte (push16 w s) x =
      if x = s.sp - 1#16 then hiByte w
      else if x = s.sp - 1#16 - 1#16 then loByte w else memByte s x := by
  split
  · next h => rw [h]; exact memByte_push16_high w s
  · next h1 =>
    split
    · next h2 => rw [h2]; exact memByte_push16_low w s
    · next h2 => exact memByte_push16_other w s h1 h2

/-- R98: everything `Pop16()` does. -/
theorem pop16_eq (s : State) :
    pop16 s = (joinBytes (memByte s (s.sp + 1)) (memByte s s.sp),
      { s with
        sp := s.sp + 1 + 1
        history := .memRead (s.sp + 1) (memByte s (s.sp + 1)) :: .memRead s.sp (memByte s s.sp) ::
          s.history }) := rfl

/-- R140: everything `Restart(v)` does. -/
theorem restart_eq (v : Word) (s : State) : restart v s = { push16 s.pc s with pc := v } := rfl

/-- R140: the vector call writes the two bytes of the push and no other. -/
theorem memByte_restart (x v : Word) (s : State) :
    memByte (restart v s) x = memByte (push16 s.pc s) x := rfl

/-- R142: everything the return does. -/
theorem returnFromStack_eq (s : State) :
    returnFromStack s = { (pop16 s).2 with pc := (pop16 s).1 } := rfl

@[simp] theorem andThen_next (s : State) (k : State → Result) :
    andThen (.next s) k = k s := rfl

@[simp] theorem andThen_fault (e : Fault) (k : State → Result) :
    andThen (.fault e) k = .fault e := rfl

@[simp] theorem andThen_refused (e : Refusal) (k : State → Result) :
    andThen (.refused e) k = .refused e := rfl

/-- A carried-on result is a next state exactly when both halves are. -/
theorem andThen_eq_next {r : Result} {k : State → Result} {t : State} :
    andThen r k = .next t ↔ ∃ u, r = .next u ∧ k u = .next t := by
  cases r <;> simp [andThen]

/-- R175: what a request does: nothing on a masked line, else the record is replaced. -/
theorem request_cases (line : Fin 3) (token : Option Token) (s : State) :
    (s.mask.getLsbD line.val = true ∧ request line token s = s) ∨
      (s.mask.getLsbD line.val = false ∧
        request line token s = { s with pending := some ⟨line, token⟩ }) := by
  cases h : s.mask.getLsbD line.val with
  | true => exact .inl ⟨rfl, by simp only [request, h, if_true]⟩
  | false => exact .inr ⟨rfl, by simp only [request, h, Bool.false_eq_true, if_false]⟩

/-- R176: what the service does: nothing, or the vector call for the pending request. -/
theorem service_cases (c : Config) (s : State) :
    ((s.ie = false ∨ s.pending = none) ∧ service c s = s) ∨
      ∃ p, s.ie = true ∧ s.pending = some p ∧
        service c s =
          { restart (interruptVector c p.line) (emitIntAck p.token { s with ie := false }) with
            pending := none } := by
  cases hi : s.ie with
  | false => exact .inl ⟨.inl rfl, by simp [service, hi]⟩
  | true =>
    cases hp : s.pending with
    | none => exact .inl ⟨.inr rfl, by simp [service, hi, hp]⟩
    | some p => exact .inr ⟨p, rfl, rfl, by simp [service, hi, hp]⟩

/-- What one event that is applied does. -/
theorem applyEvent_cases {c : Config} {ev : Event} {s t : State}
    (h : applyEvent c ev s = .next t) :
    (∃ line token, ev = .request line.val token ∧ t = request line token s) ∨
      (ev = .trap ∧ t = trap c s) ∨ (ev = .reset ∧ t = resetEvent c s) := by
  cases ev with
  | request line token =>
    by_cases hl : line < c.nlines
    · simp only [applyEvent, hl, dite_true, Host.Outcome.next.injEq] at h
      exact .inl ⟨⟨line, c.nlines_eq ▸ hl⟩, token, rfl, h.symm⟩
    · simp [applyEvent, hl] at h
  | trap => exact .inr (.inl ⟨rfl, by simpa [applyEvent] using h.symm⟩)
  | reset => exact .inr (.inr ⟨rfl, by simpa [applyEvent] using h.symm⟩)

/-- A property that every event keeps is kept by a boundary's events. -/
theorem applyEvents_keeps {c : Config} {P : State → Prop}
    (hP : ∀ ev s t, P s → applyEvent c ev s = .next t → P t) :
    ∀ (evs : List Event) {s t : State}, P s → applyEvents c evs s = .next t → P t := by
  intro evs
  induction evs with
  | nil => intro s t hs h; simp only [applyEvents, Host.Outcome.next.injEq] at h; exact h ▸ hs
  | cons ev evs ih =>
    intro s t hs h
    obtain ⟨u, hu, ht⟩ := andThen_eq_next.mp h
    exact ih (hP ev s u hs hu) ht

/-- A property that every event keeps, and that does not read the schedule, is kept by a boundary. -/
theorem boundary_keeps {c : Config} {P : State → Prop}
    (hS : ∀ s evs, P s → P { s with schedule := evs })
    (hP : ∀ ev s t, P s → applyEvent c ev s = .next t → P t) {s t : State} (hs : P s)
    (h : boundary c s = .next t) : P t := by
  unfold boundary at h
  cases hq : s.schedule with
  | nil => simp only [hq, Host.Outcome.next.injEq] at h; exact h ▸ hs
  | cons evs rest => simp only [hq] at h; exact applyEvents_keeps hP evs (hS s rest hs) h

/-- With nothing scheduled a boundary does nothing. -/
@[simp] theorem boundary_quiet (c : Config) {s : State} (h : s.schedule = []) :
    boundary c s = .next s := by simp [boundary, h]

end Sys2Proof.Machine
end

