-- ==== Sys2Proof/Laws/Exec.lean ====
section
/-! SUPPORT. What every instruction does, once for all, under any configuration: `execWith` answers the state that `effect` gives for the
instruction's spelling, so a proof about all instructions has the 17 forms of R61 to look at, not the
163 constructors. The results of the shared operations are in Sys2Proof/Laws/Ops.lean. -/

namespace Sys2Proof.Machine

/-- The state one `Fetch()` of an operand byte leaves (R70). -/
def fetched (s : State) : State :=
  { s with pc := s.pc + 1, history := .memRead s.pc (memByte s s.pc) :: s.history }

/-- What an instruction spelled `stmt` does to the state its rule starts in. An ill-formed statement
spells no instruction and does nothing. -/
def effect (c : Config) (stmt : Asm) (s : State) : State :=
  match stmt with
  | .nop => s
  | .hlt => { s with run := false }
  | .mvi dest d8 => wrOp8 dest (BitVec.ofNat 8 d8) (fetched s)
  | .lxi .b d16 => wrPair .bc (BitVec.ofNat 16 d16) (fetched (fetched s))
  | .lxi .d d16 => wrPair .de (BitVec.ofNat 16 d16) (fetched (fetched s))
  | .lxi .h d16 => wrPair .hl (BitVec.ofNat 16 d16) (fetched (fetched s))
  | .lxi .sp d16 => { fetched (fetched s) with sp := BitVec.ofNat 16 d16 }
  | .lxi .psw _ => s
  | .mov .mem .mem => s
  | .mov (.reg q) source => wrOp8 (.reg q) (rdOp8 source s).1 (rdOp8 source s).2
  | .mov .mem (.reg r) => wrOp8 .mem (getReg r s) s
  | .push .b => push16 (rdPair .bc s) s
  | .push .d => push16 (rdPair .de s) s
  | .push .h => push16 (rdPair .hl s) s
  | .push .psw => push16 (rdPair .af s) s
  | .push .sp => s
  | .pop .b => wrPair .bc (pop16 s).1 (pop16 s).2
  | .pop .d => wrPair .de (pop16 s).1 (pop16 s).2
  | .pop .h => wrPair .hl (pop16 s).1 (pop16 s).2
  | .pop .psw => wrPair .af (pop16 s).1 (pop16 s).2
  | .pop .sp => s
  | .alu family source => aluApply c family (rdOp8 source s).1 (rdOp8 source s).2
  | .aluImmediate family d8 => aluApply c family (BitVec.ofNat 8 d8) (fetched s)
  | .jmp a16 => { fetched (fetched s) with pc := BitVec.ofNat 16 a16 }
  | .ret => returnFromStack s
  | .rst n => restart (BitVec.ofNat 16 n * c.rstStride) s
  | .inPort p8 =>
    setReg .a (ioRead (BitVec.ofNat 8 p8) (fetched s)).1 (ioRead (BitVec.ofNat 8 p8) (fetched s)).2
  | .outPort p8 => ioWrite (BitVec.ofNat 8 p8) s.a (fetched s)
  | .ei => { s with ie := true }
  | .di => { s with ie := false }
  | .sim => { s with mask := if s.a.getLsbD 3 then s.a.extractLsb' 0 3 else s.mask }

/-- Every instruction answers the state of its effect, under any configuration. -/
theorem execWith_effect (c : Config) (i : Instr) (s : State) :
    execWith c i s = .next (effect c i.asm s) := by
  cases i <;> simp only [execWith, Instr.asm, effect, BitVec.ofNat_toNat, BitVec.setWidth_eq] <;>
    first | rfl | exact operandByte_eq _ _ | exact operandWord_eq _ _

/-- The dispatch is the execution under the configuration of this model. -/
theorem exec_eq_execWith (i : Instr) (s : State) : exec i s = execWith config i s := by
  cases i <;> rfl

/-- Every instruction answers the state of its effect. -/
theorem exec_effect (i : Instr) (s : State) : exec i s = .next (effect config i.asm s) :=
  (exec_eq_execWith i s).trans (execWith_effect config i s)

end Sys2Proof.Machine
end

