-- ==== Sys2Proof/Laws/Interrupts.lean ====
section
/-! SUPPORT. What a request, the service and the trap leave alone, one lemma per field. -/

namespace Sys2Proof.Machine

/-! `request` -/

@[simp] theorem request_a (i : Fin 3) (k : Option Token) (s : State) : (request i k s).a = s.a := by
  obtain ⟨-, e⟩ | ⟨-, e⟩ := request_cases i k s <;> rw [e]
@[simp] theorem request_b (i : Fin 3) (k : Option Token) (s : State) : (request i k s).b = s.b := by
  obtain ⟨-, e⟩ | ⟨-, e⟩ := request_cases i k s <;> rw [e]
@[simp] theorem request_c (i : Fin 3) (k : Option Token) (s : State) : (request i k s).c = s.c := by
  obtain ⟨-, e⟩ | ⟨-, e⟩ := request_cases i k s <;> rw [e]
@[simp] theorem request_d (i : Fin 3) (k : Option Token) (s : State) : (request i k s).d = s.d := by
  obtain ⟨-, e⟩ | ⟨-, e⟩ := request_cases i k s <;> rw [e]
@[simp] theorem request_e (i : Fin 3) (k : Option Token) (s : State) : (request i k s).e = s.e := by
  obtain ⟨-, e⟩ | ⟨-, e⟩ := request_cases i k s <;> rw [e]
@[simp] theorem request_h (i : Fin 3) (k : Option Token) (s : State) : (request i k s).h = s.h := by
  obtain ⟨-, e⟩ | ⟨-, e⟩ := request_cases i k s <;> rw [e]
@[simp] theorem request_l (i : Fin 3) (k : Option Token) (s : State) : (request i k s).l = s.l := by
  obtain ⟨-, e⟩ | ⟨-, e⟩ := request_cases i k s <;> rw [e]
@[simp] theorem request_f (i : Fin 3) (k : Option Token) (s : State) : (request i k s).f = s.f := by
  obtain ⟨-, e⟩ | ⟨-, e⟩ := request_cases i k s <;> rw [e]
@[simp] theorem request_pc (i : Fin 3) (k : Option Token) (s : State) : (request i k s).pc = s.pc := by
  obtain ⟨-, e⟩ | ⟨-, e⟩ := request_cases i k s <;> rw [e]
@[simp] theorem request_sp (i : Fin 3) (k : Option Token) (s : State) : (request i k s).sp = s.sp := by
  obtain ⟨-, e⟩ | ⟨-, e⟩ := request_cases i k s <;> rw [e]
@[simp] theorem request_ie (i : Fin 3) (k : Option Token) (s : State) : (request i k s).ie = s.ie := by
  obtain ⟨-, e⟩ | ⟨-, e⟩ := request_cases i k s <;> rw [e]
@[simp] theorem request_mask (i : Fin 3) (k : Option Token) (s : State) : (request i k s).mask = s.mask := by
  obtain ⟨-, e⟩ | ⟨-, e⟩ := request_cases i k s <;> rw [e]
@[simp] theorem request_run (i : Fin 3) (k : Option Token) (s : State) : (request i k s).run = s.run := by
  obtain ⟨-, e⟩ | ⟨-, e⟩ := request_cases i k s <;> rw [e]
@[simp] theorem request_fault (i : Fin 3) (k : Option Token) (s : State) : (request i k s).fault = s.fault := by
  obtain ⟨-, e⟩ | ⟨-, e⟩ := request_cases i k s <;> rw [e]
@[simp] theorem request_ir (i : Fin 3) (k : Option Token) (s : State) : (request i k s).ir = s.ir := by
  obtain ⟨-, e⟩ | ⟨-, e⟩ := request_cases i k s <;> rw [e]
@[simp] theorem request_mem (i : Fin 3) (k : Option Token) (s : State) : (request i k s).mem = s.mem := by
  obtain ⟨-, e⟩ | ⟨-, e⟩ := request_cases i k s <;> rw [e]
@[simp] theorem request_phase (i : Fin 3) (k : Option Token) (s : State) : (request i k s).phase = s.phase := by
  obtain ⟨-, e⟩ | ⟨-, e⟩ := request_cases i k s <;> rw [e]
@[simp] theorem request_history (i : Fin 3) (k : Option Token) (s : State) : (request i k s).history = s.history := by
  obtain ⟨-, e⟩ | ⟨-, e⟩ := request_cases i k s <;> rw [e]
@[simp] theorem request_ioAnswers (i : Fin 3) (k : Option Token) (s : State) : (request i k s).ioAnswers = s.ioAnswers := by
  obtain ⟨-, e⟩ | ⟨-, e⟩ := request_cases i k s <;> rw [e]
@[simp] theorem request_ioDraws (i : Fin 3) (k : Option Token) (s : State) : (request i k s).ioDraws = s.ioDraws := by
  obtain ⟨-, e⟩ | ⟨-, e⟩ := request_cases i k s <;> rw [e]
@[simp] theorem request_schedule (i : Fin 3) (k : Option Token) (s : State) : (request i k s).schedule = s.schedule := by
  obtain ⟨-, e⟩ | ⟨-, e⟩ := request_cases i k s <;> rw [e]

/-! `service` -/

@[simp] theorem service_a (c : Config) (s : State) : (service c s).a = s.a := by
  obtain ⟨-, e⟩ | ⟨p, -, -, e⟩ := service_cases c s <;> rw [e]
  simp
@[simp] theorem service_b (c : Config) (s : State) : (service c s).b = s.b := by
  obtain ⟨-, e⟩ | ⟨p, -, -, e⟩ := service_cases c s <;> rw [e]
  simp
@[simp] theorem service_c (c : Config) (s : State) : (service c s).c = s.c := by
  obtain ⟨-, e⟩ | ⟨p, -, -, e⟩ := service_cases c s <;> rw [e]
  simp
@[simp] theorem service_d (c : Config) (s : State) : (service c s).d = s.d := by
  obtain ⟨-, e⟩ | ⟨p, -, -, e⟩ := service_cases c s <;> rw [e]
  simp
@[simp] theorem service_e (c : Config) (s : State) : (service c s).e = s.e := by
  obtain ⟨-, e⟩ | ⟨p, -, -, e⟩ := service_cases c s <;> rw [e]
  simp
@[simp] theorem service_h (c : Config) (s : State) : (service c s).h = s.h := by
  obtain ⟨-, e⟩ | ⟨p, -, -, e⟩ := service_cases c s <;> rw [e]
  simp
@[simp] theorem service_l (c : Config) (s : State) : (service c s).l = s.l := by
  obtain ⟨-, e⟩ | ⟨p, -, -, e⟩ := service_cases c s <;> rw [e]
  simp
@[simp] theorem service_f (c : Config) (s : State) : (service c s).f = s.f := by
  obtain ⟨-, e⟩ | ⟨p, -, -, e⟩ := service_cases c s <;> rw [e]
  simp
@[simp] theorem service_mask (c : Config) (s : State) : (service c s).mask = s.mask := by
  obtain ⟨-, e⟩ | ⟨p, -, -, e⟩ := service_cases c s <;> rw [e]
  simp
@[simp] theorem service_run (c : Config) (s : State) : (service c s).run = s.run := by
  obtain ⟨-, e⟩ | ⟨p, -, -, e⟩ := service_cases c s <;> rw [e]
  simp
@[simp] theorem service_fault (c : Config) (s : State) : (service c s).fault = s.fault := by
  obtain ⟨-, e⟩ | ⟨p, -, -, e⟩ := service_cases c s <;> rw [e]
  simp
@[simp] theorem service_ir (c : Config) (s : State) : (service c s).ir = s.ir := by
  obtain ⟨-, e⟩ | ⟨p, -, -, e⟩ := service_cases c s <;> rw [e]
  simp
@[simp] theorem service_phase (c : Config) (s : State) : (service c s).phase = s.phase := by
  obtain ⟨-, e⟩ | ⟨p, -, -, e⟩ := service_cases c s <;> rw [e]
  simp
@[simp] theorem service_ioAnswers (c : Config) (s : State) : (service c s).ioAnswers = s.ioAnswers := by
  obtain ⟨-, e⟩ | ⟨p, -, -, e⟩ := service_cases c s <;> rw [e]
  simp
@[simp] theorem service_ioDraws (c : Config) (s : State) : (service c s).ioDraws = s.ioDraws := by
  obtain ⟨-, e⟩ | ⟨p, -, -, e⟩ := service_cases c s <;> rw [e]
  simp
@[simp] theorem service_schedule (c : Config) (s : State) : (service c s).schedule = s.schedule := by
  obtain ⟨-, e⟩ | ⟨p, -, -, e⟩ := service_cases c s <;> rw [e]
  simp

/-! `trap` -/

@[simp] theorem trap_a (c : Config) (s : State) : (trap c s).a = s.a := rfl
@[simp] theorem trap_b (c : Config) (s : State) : (trap c s).b = s.b := rfl
@[simp] theorem trap_c (c : Config) (s : State) : (trap c s).c = s.c := rfl
@[simp] theorem trap_d (c : Config) (s : State) : (trap c s).d = s.d := rfl
@[simp] theorem trap_e (c : Config) (s : State) : (trap c s).e = s.e := rfl
@[simp] theorem trap_h (c : Config) (s : State) : (trap c s).h = s.h := rfl
@[simp] theorem trap_l (c : Config) (s : State) : (trap c s).l = s.l := rfl
@[simp] theorem trap_f (c : Config) (s : State) : (trap c s).f = s.f := rfl
@[simp] theorem trap_pc (c : Config) (s : State) : (trap c s).pc = c.trapVector := rfl
@[simp] theorem trap_sp (c : Config) (s : State) : (trap c s).sp = s.sp - 1#16 - 1#16 := rfl
@[simp] theorem trap_ie (c : Config) (s : State) : (trap c s).ie = s.ie := rfl
@[simp] theorem trap_mask (c : Config) (s : State) : (trap c s).mask = s.mask := rfl
@[simp] theorem trap_pending (c : Config) (s : State) : (trap c s).pending = s.pending := rfl
@[simp] theorem trap_run (c : Config) (s : State) : (trap c s).run = s.run := rfl
@[simp] theorem trap_fault (c : Config) (s : State) : (trap c s).fault = s.fault := rfl
@[simp] theorem trap_ir (c : Config) (s : State) : (trap c s).ir = s.ir := rfl
@[simp] theorem trap_mem (c : Config) (s : State) : (trap c s).mem = (push16 s.pc s).mem := rfl
@[simp] theorem trap_phase (c : Config) (s : State) : (trap c s).phase = s.phase := rfl
@[simp] theorem trap_history (c : Config) (s : State) : (trap c s).history = (push16 s.pc s).history := rfl
@[simp] theorem trap_ioAnswers (c : Config) (s : State) : (trap c s).ioAnswers = s.ioAnswers := rfl
@[simp] theorem trap_ioDraws (c : Config) (s : State) : (trap c s).ioDraws = s.ioDraws := rfl
@[simp] theorem trap_schedule (c : Config) (s : State) : (trap c s).schedule = s.schedule := rfl

@[simp] theorem getReg_request (r : Reg) (i : Fin 3) (k : Option Token) (s : State) :
    getReg r (request i k s) = getReg r s := by cases r <;> simp [getReg]
@[simp] theorem getReg_service (r : Reg) (c : Config) (s : State) :
    getReg r (service c s) = getReg r s := by cases r <;> simp [getReg]
@[simp] theorem getReg_trap (r : Reg) (c : Config) (s : State) :
    getReg r (trap c s) = getReg r s := getReg_restart r c.trapVector s
@[simp] theorem memByte_request (x : Word) (i : Fin 3) (k : Option Token) (s : State) :
    memByte (request i k s) x = memByte s x := by simp [memByte]

end Sys2Proof.Machine
end

