-- ==== Sys2Proof/Laws/Step.lean ====
section
/-! SUPPORT. What the phases and the step do, once for each, in the form later proofs cite. -/

namespace Sys2Proof.Machine

/-- The state in which an instruction's rule starts: opcode fetched, `PC` past it, `IR` written (R71). -/
def afterOpcodeFetch (s : State) : State :=
  { s with
    pc := s.pc + 1
    ir := memByte s s.pc
    history := .memRead s.pc (memByte s s.pc) :: s.history }

/-- R71: an `Exec` phase raises `InvalidOpcode` or runs the rule of the one instruction decoded. -/
theorem execPhase_cases (c : Config) (s : State) :
    (decodeWith c (instrBytes s) = none ∧
        execPhase c s =
          .next (raise (.invalidOpcode (memByte s s.pc) s.pc) (afterOpcodeFetch s))) ∨
      ∃ i rest, decodeWith c (instrBytes s) = some (i, rest) ∧
        execPhase c s = andThen (execWith c i (afterOpcodeFetch s)) fun u => .next (endExec u) := by
  unfold execPhase
  rw [fetch_eq]
  cases h : decodeWith c (instrBytes s) with
  | none => exact .inl ⟨rfl, rfl⟩
  | some ir => obtain ⟨i, rest⟩ := ir; exact .inr ⟨i, rest, rfl, rfl⟩

/-- A step, under any configuration, that answers a next state: an idle boundary, the rest of a begun step, or a whole step. -/
theorem stepWith_next_cases {c : Config} {s t : State} (h : stepWith c s = .next t) :
    (sequencerRuns s = false ∧ s.schedule ≠ [] ∧ boundary c s = .next t) ∨
      (sequencerRuns s = true ∧ s.phase = .service ∧
        boundary c (servicePhase c s) = .next t) ∨
      (sequencerRuns s = true ∧ s.phase = .exec ∧
        ∃ u, execPhase c s = .next u ∧ finishStep c u = .next t) := by
  unfold stepWith at h
  cases hr : sequencerRuns s with
  | false =>
    simp only [hr, Bool.false_eq_true, if_false, idle] at h
    cases hq : s.schedule with
    | nil => simp [hq] at h
    | cons evs rest => exact .inl ⟨rfl, by simp, by simpa [hq] using h⟩
  | true =>
    simp only [hr, if_true] at h
    cases hp : s.phase with
    | exec =>
      simp only [hp, singleStep] at h
      exact .inr (.inr ⟨rfl, rfl, andThen_eq_next.mp h⟩)
    | service => exact .inr (.inl ⟨rfl, rfl, by simpa [hp] using h⟩)

/-- The step is the step under the configuration of this model. -/
theorem step_eq_stepWith (s : State) : step s = stepWith config s := rfl

/-- The second half of a step: the boundary, then nothing more or the `Service` phase and its
boundary. -/
theorem finishStep_cases {c : Config} {s t : State} (h : finishStep c s = .next t) :
    ∃ u, boundary c s = .next u ∧
      ((¬ (u.phase = .service ∧ u.fault = none) ∧ t = u) ∨
        (u.phase = .service ∧ u.fault = none ∧ boundary c (servicePhase c u) = .next t)) := by
  obtain ⟨u, hu, ht⟩ := andThen_eq_next.mp h
  refine ⟨u, hu, ?_⟩
  cases hp : u.phase <;> cases hf : u.fault <;> simp [hp, hf] at ht ⊢
  · exact ht.symm
  · exact ht.symm
  · exact ht
  · exact ht.symm

/-- With nothing scheduled, the second half of a step is the `Service` phase. -/
theorem finishStep_quiet {c : Config} {s : State} (hq : s.schedule = []) (hp : s.phase = .service)
    (hf : s.fault = none) (hq' : (servicePhase c s).schedule = []) :
    finishStep c s = .next (servicePhase c s) := by
  simp [finishStep, hq, hp, hf, hq']

end Sys2Proof.Machine
end

