-- ==== Sys2Proof/Laws/Invariant.lean ====
section
/-! SUPPORT. Every operation that writes memory keeps its canonical form, one lemma per operation, and
reset memory has it. -/

namespace Sys2Proof.Machine

theorem memWrite_wf {s : State} (h : Memory.wf s.mem = true) (x : Word) (v : Byte) :
    Memory.wf (memWrite x v s).mem = true := memory_put_wf h x v

theorem wrOp8_wf {s : State} (h : Memory.wf s.mem = true) (o : Operand) (v : Byte) :
    Memory.wf (wrOp8 o v s).mem = true := by
  cases o with
  | reg r => simpa [wrOp8] using h
  | mem => exact memWrite_wf h _ v

theorem push16_wf {s : State} (h : Memory.wf s.mem = true) (w : Word) :
    Memory.wf (push16 w s).mem = true := memory_put_wf (memory_put_wf h _ _) _ _

theorem restart_wf {s : State} (h : Memory.wf s.mem = true) (v : Word) :
    Memory.wf (restart v s).mem = true := push16_wf h s.pc

theorem service_wf {s : State} (h : Memory.wf s.mem = true) (c : Config) :
    Memory.wf (service c s).mem = true := by
  obtain ⟨-, e⟩ | ⟨p, -, -, e⟩ := service_cases c s
  · rwa [e]
  · rw [e]
    exact restart_wf (s := emitIntAck p.token { s with ie := false })
      (by rw [emitIntAck_mem]; exact h) (interruptVector c p.line)

theorem resetEvent_wf {s : State} (h : Memory.wf s.mem = true) (c : Config) :
    Memory.wf (resetEvent c s).mem = true := memory_put_wf h _ _

theorem placeBytes_wf (bytes : List Byte) :
    ∀ {s : State} (x : Word), Memory.wf s.mem = true →
      Memory.wf (placeBytes s x bytes).mem = true := by
  induction bytes with
  | nil => intro s x h; exact h
  | cons v rest ih => intro s x h; exact ih (x + 1) (memory_put_wf h x v)

theorem resetWith_mem_wf (c : Config) : Memory.wf (State.resetWith c).mem = true :=
  memory_put_wf (m := []) rfl _ _

theorem reset_mem_wf : Memory.wf State.reset.mem = true := resetWith_mem_wf config

end Sys2Proof.Machine
end

