-- ==== Sys2Proof/Laws/PerInstr.lean ====
section
/-! SUPPORT. Statements about every instruction as syntax, one lemma per instruction. `EncodedLength`:
an instruction is well formed, it has one to three bytes, and its encoding has exactly its length
(spec/30_encoding.md R50). -/

namespace Sys2Proof.Laws.EncodedLength

/-- R50: "An instruction is 1, 2 or 3 bytes long." -/
def Statement (i : Instr) : Prop :=
  i.wellFormed = true ∧ 1 ≤ i.length ∧ i.length ≤ 3 ∧ (encode i).length = i.length

theorem nop : Statement .nop :=
  ⟨rfl, by decide, by decide, rfl⟩

theorem hlt : Statement .hlt :=
  ⟨rfl, by decide, by decide, rfl⟩

theorem mviB (d8 : Byte) : Statement (.mviB d8) :=
  ⟨decide_eq_true d8.isLt, Nat.le_add_left 1 _, Nat.le_of_ble_eq_true rfl, rfl⟩

theorem mviC (d8 : Byte) : Statement (.mviC d8) :=
  ⟨decide_eq_true d8.isLt, Nat.le_add_left 1 _, Nat.le_of_ble_eq_true rfl, rfl⟩

theorem mviD (d8 : Byte) : Statement (.mviD d8) :=
  ⟨decide_eq_true d8.isLt, Nat.le_add_left 1 _, Nat.le_of_ble_eq_true rfl, rfl⟩

theorem mviE (d8 : Byte) : Statement (.mviE d8) :=
  ⟨decide_eq_true d8.isLt, Nat.le_add_left 1 _, Nat.le_of_ble_eq_true rfl, rfl⟩

theorem mviH (d8 : Byte) : Statement (.mviH d8) :=
  ⟨decide_eq_true d8.isLt, Nat.le_add_left 1 _, Nat.le_of_ble_eq_true rfl, rfl⟩

theorem mviL (d8 : Byte) : Statement (.mviL d8) :=
  ⟨decide_eq_true d8.isLt, Nat.le_add_left 1 _, Nat.le_of_ble_eq_true rfl, rfl⟩

theorem mviM (d8 : Byte) : Statement (.mviM d8) :=
  ⟨decide_eq_true d8.isLt, Nat.le_add_left 1 _, Nat.le_of_ble_eq_true rfl, rfl⟩

theorem mviA (d8 : Byte) : Statement (.mviA d8) :=
  ⟨decide_eq_true d8.isLt, Nat.le_add_left 1 _, Nat.le_of_ble_eq_true rfl, rfl⟩

theorem lxiB (d16 : Word) : Statement (.lxiB d16) :=
  ⟨decide_eq_true d16.isLt, Nat.le_add_left 1 _, Nat.le_of_ble_eq_true rfl, rfl⟩

theorem lxiD (d16 : Word) : Statement (.lxiD d16) :=
  ⟨decide_eq_true d16.isLt, Nat.le_add_left 1 _, Nat.le_of_ble_eq_true rfl, rfl⟩

theorem lxiH (d16 : Word) : Statement (.lxiH d16) :=
  ⟨decide_eq_true d16.isLt, Nat.le_add_left 1 _, Nat.le_of_ble_eq_true rfl, rfl⟩

theorem lxiSP (d16 : Word) : Statement (.lxiSP d16) :=
  ⟨decide_eq_true d16.isLt, Nat.le_add_left 1 _, Nat.le_of_ble_eq_true rfl, rfl⟩

theorem movBB : Statement .movBB :=
  ⟨rfl, by decide, by decide, rfl⟩

theorem movBC : Statement .movBC :=
  ⟨rfl, by decide, by decide, rfl⟩

theorem movBD : Statement .movBD :=
  ⟨rfl, by decide, by decide, rfl⟩

theorem movBE : Statement .movBE :=
  ⟨rfl, by decide, by decide, rfl⟩

theorem movBH : Statement .movBH :=
  ⟨rfl, by decide, by decide, rfl⟩

theorem movBL : Statement .movBL :=
  ⟨rfl, by decide, by decide, rfl⟩

theorem movBM : Statement .movBM :=
  ⟨rfl, by decide, by decide, rfl⟩

theorem movBA : Statement .movBA :=
  ⟨rfl, by decide, by decide, rfl⟩

theorem movCB : Statement .movCB :=
  ⟨rfl, by decide, by decide, rfl⟩

theorem movCC : Statement .movCC :=
  ⟨rfl, by decide, by decide, rfl⟩

theorem movCD : Statement .movCD :=
  ⟨rfl, by decide, by decide, rfl⟩

theorem movCE : Statement .movCE :=
  ⟨rfl, by decide, by decide, rfl⟩

theorem movCH : Statement .movCH :=
  ⟨rfl, by decide, by decide, rfl⟩

theorem movCL : Statement .movCL :=
  ⟨rfl, by decide, by decide, rfl⟩

theorem movCM : Statement .movCM :=
  ⟨rfl, by decide, by decide, rfl⟩

theorem movCA : Statement .movCA :=
  ⟨rfl, by decide, by decide, rfl⟩

theorem movDB : Statement .movDB :=
  ⟨rfl, by decide, by decide, rfl⟩

theorem movDC : Statement .movDC :=
  ⟨rfl, by decide, by decide, rfl⟩

theorem movDD : Statement .movDD :=
  ⟨rfl, by decide, by decide, rfl⟩

theorem movDE : Statement .movDE :=
  ⟨rfl, by decide, by decide, rfl⟩

theorem movDH : Statement .movDH :=
  ⟨rfl, by decide, by decide, rfl⟩

theorem movDL : Statement .movDL :=
  ⟨rfl, by decide, by decide, rfl⟩

theorem movDM : Statement .movDM :=
  ⟨rfl, by decide, by decide, rfl⟩

theorem movDA : Statement .movDA :=
  ⟨rfl, by decide, by decide, rfl⟩

theorem movEB : Statement .movEB :=
  ⟨rfl, by decide, by decide, rfl⟩

theorem movEC : Statement .movEC :=
  ⟨rfl, by decide, by decide, rfl⟩

theorem movED : Statement .movED :=
  ⟨rfl, by decide, by decide, rfl⟩

theorem movEE : Statement .movEE :=
  ⟨rfl, by decide, by decide, rfl⟩

theorem movEH : Statement .movEH :=
  ⟨rfl, by decide, by decide, rfl⟩

theorem movEL : Statement .movEL :=
  ⟨rfl, by decide, by decide, rfl⟩

theorem movEM : Statement .movEM :=
  ⟨rfl, by decide, by decide, rfl⟩

theorem movEA : Statement .movEA :=
  ⟨rfl, by decide, by decide, rfl⟩

theorem movHB : Statement .movHB :=
  ⟨rfl, by decide, by decide, rfl⟩

theorem movHC : Statement .movHC :=
  ⟨rfl, by decide, by decide, rfl⟩

theorem movHD : Statement .movHD :=
  ⟨rfl, by decide, by decide, rfl⟩

theorem movHE : Statement .movHE :=
  ⟨rfl, by decide, by decide, rfl⟩

theorem movHH : Statement .movHH :=
  ⟨rfl, by decide, by decide, rfl⟩

theorem movHL : Statement .movHL :=
  ⟨rfl, by decide, by decide, rfl⟩

theorem movHM : Statement .movHM :=
  ⟨rfl, by decide, by decide, rfl⟩

theorem movHA : Statement .movHA :=
  ⟨rfl, by decide, by decide, rfl⟩

theorem movLB : Statement .movLB :=
  ⟨rfl, by decide, by decide, rfl⟩

theorem movLC : Statement .movLC :=
  ⟨rfl, by decide, by decide, rfl⟩

theorem movLD : Statement .movLD :=
  ⟨rfl, by decide, by decide, rfl⟩

theorem movLE : Statement .movLE :=
  ⟨rfl, by decide, by decide, rfl⟩

theorem movLH : Statement .movLH :=
  ⟨rfl, by decide, by decide, rfl⟩

theorem movLL : Statement .movLL :=
  ⟨rfl, by decide, by decide, rfl⟩

theorem movLM : Statement .movLM :=
  ⟨rfl, by decide, by decide, rfl⟩

theorem movLA : Statement .movLA :=
  ⟨rfl, by decide, by decide, rfl⟩

theorem movMB : Statement .movMB :=
  ⟨rfl, by decide, by decide, rfl⟩

theorem movMC : Statement .movMC :=
  ⟨rfl, by decide, by decide, rfl⟩

theorem movMD : Statement .movMD :=
  ⟨rfl, by decide, by decide, rfl⟩

theorem movME : Statement .movME :=
  ⟨rfl, by decide, by decide, rfl⟩

theorem movMH : Statement .movMH :=
  ⟨rfl, by decide, by decide, rfl⟩

theorem movML : Statement .movML :=
  ⟨rfl, by decide, by decide, rfl⟩

theorem movMA : Statement .movMA :=
  ⟨rfl, by decide, by decide, rfl⟩

theorem movAB : Statement .movAB :=
  ⟨rfl, by decide, by decide, rfl⟩

theorem movAC : Statement .movAC :=
  ⟨rfl, by decide, by decide, rfl⟩

theorem movAD : Statement .movAD :=
  ⟨rfl, by decide, by decide, rfl⟩

theorem movAE : Statement .movAE :=
  ⟨rfl, by decide, by decide, rfl⟩

theorem movAH : Statement .movAH :=
  ⟨rfl, by decide, by decide, rfl⟩

theorem movAL : Statement .movAL :=
  ⟨rfl, by decide, by decide, rfl⟩

theorem movAM : Statement .movAM :=
  ⟨rfl, by decide, by decide, rfl⟩

theorem movAA : Statement .movAA :=
  ⟨rfl, by decide, by decide, rfl⟩

theorem pushB : Statement .pushB :=
  ⟨rfl, by decide, by decide, rfl⟩

theorem pushD : Statement .pushD :=
  ⟨rfl, by decide, by decide, rfl⟩

theorem pushH : Statement .pushH :=
  ⟨rfl, by decide, by decide, rfl⟩

theorem pushPSW : Statement .pushPSW :=
  ⟨rfl, by decide, by decide, rfl⟩

theorem popB : Statement .popB :=
  ⟨rfl, by decide, by decide, rfl⟩

theorem popD : Statement .popD :=
  ⟨rfl, by decide, by decide, rfl⟩

theorem popH : Statement .popH :=
  ⟨rfl, by decide, by decide, rfl⟩

theorem popPSW : Statement .popPSW :=
  ⟨rfl, by decide, by decide, rfl⟩

theorem addB : Statement .addB :=
  ⟨rfl, by decide, by decide, rfl⟩

theorem addC : Statement .addC :=
  ⟨rfl, by decide, by decide, rfl⟩

theorem addD : Statement .addD :=
  ⟨rfl, by decide, by decide, rfl⟩

theorem addE : Statement .addE :=
  ⟨rfl, by decide, by decide, rfl⟩

theorem addH : Statement .addH :=
  ⟨rfl, by decide, by decide, rfl⟩

theorem addL : Statement .addL :=
  ⟨rfl, by decide, by decide, rfl⟩

theorem addM : Statement .addM :=
  ⟨rfl, by decide, by decide, rfl⟩

theorem addA : Statement .addA :=
  ⟨rfl, by decide, by decide, rfl⟩

theorem adcB : Statement .adcB :=
  ⟨rfl, by decide, by decide, rfl⟩

theorem adcC : Statement .adcC :=
  ⟨rfl, by decide, by decide, rfl⟩

theorem adcD : Statement .adcD :=
  ⟨rfl, by decide, by decide, rfl⟩

theorem adcE : Statement .adcE :=
  ⟨rfl, by decide, by decide, rfl⟩

theorem adcH : Statement .adcH :=
  ⟨rfl, by decide, by decide, rfl⟩

theorem adcL : Statement .adcL :=
  ⟨rfl, by decide, by decide, rfl⟩

theorem adcM : Statement .adcM :=
  ⟨rfl, by decide, by decide, rfl⟩

theorem adcA : Statement .adcA :=
  ⟨rfl, by decide, by decide, rfl⟩

theorem subB : Statement .subB :=
  ⟨rfl, by decide, by decide, rfl⟩

theorem subC : Statement .subC :=
  ⟨rfl, by decide, by decide, rfl⟩

theorem subD : Statement .subD :=
  ⟨rfl, by decide, by decide, rfl⟩

theorem subE : Statement .subE :=
  ⟨rfl, by decide, by decide, rfl⟩

theorem subH : Statement .subH :=
  ⟨rfl, by decide, by decide, rfl⟩

theorem subL : Statement .subL :=
  ⟨rfl, by decide, by decide, rfl⟩

theorem subM : Statement .subM :=
  ⟨rfl, by decide, by decide, rfl⟩

theorem subA : Statement .subA :=
  ⟨rfl, by decide, by decide, rfl⟩

theorem sbbB : Statement .sbbB :=
  ⟨rfl, by decide, by decide, rfl⟩

theorem sbbC : Statement .sbbC :=
  ⟨rfl, by decide, by decide, rfl⟩

theorem sbbD : Statement .sbbD :=
  ⟨rfl, by decide, by decide, rfl⟩

theorem sbbE : Statement .sbbE :=
  ⟨rfl, by decide, by decide, rfl⟩

theorem sbbH : Statement .sbbH :=
  ⟨rfl, by decide, by decide, rfl⟩

theorem sbbL : Statement .sbbL :=
  ⟨rfl, by decide, by decide, rfl⟩

theorem sbbM : Statement .sbbM :=
  ⟨rfl, by decide, by decide, rfl⟩

theorem sbbA : Statement .sbbA :=
  ⟨rfl, by decide, by decide, rfl⟩

theorem anaB : Statement .anaB :=
  ⟨rfl, by decide, by decide, rfl⟩

theorem anaC : Statement .anaC :=
  ⟨rfl, by decide, by decide, rfl⟩

theorem anaD : Statement .anaD :=
  ⟨rfl, by decide, by decide, rfl⟩

theorem anaE : Statement .anaE :=
  ⟨rfl, by decide, by decide, rfl⟩

theorem anaH : Statement .anaH :=
  ⟨rfl, by decide, by decide, rfl⟩

theorem anaL : Statement .anaL :=
  ⟨rfl, by decide, by decide, rfl⟩

theorem anaM : Statement .anaM :=
  ⟨rfl, by decide, by decide, rfl⟩

theorem anaA : Statement .anaA :=
  ⟨rfl, by decide, by decide, rfl⟩

theorem oraB : Statement .oraB :=
  ⟨rfl, by decide, by decide, rfl⟩

theorem oraC : Statement .oraC :=
  ⟨rfl, by decide, by decide, rfl⟩

theorem oraD : Statement .oraD :=
  ⟨rfl, by decide, by decide, rfl⟩

theorem oraE : Statement .oraE :=
  ⟨rfl, by decide, by decide, rfl⟩

theorem oraH : Statement .oraH :=
  ⟨rfl, by decide, by decide, rfl⟩

theorem oraL : Statement .oraL :=
  ⟨rfl, by decide, by decide, rfl⟩

theorem oraM : Statement .oraM :=
  ⟨rfl, by decide, by decide, rfl⟩

theorem oraA : Statement .oraA :=
  ⟨rfl, by decide, by decide, rfl⟩

theorem xraB : Statement .xraB :=
  ⟨rfl, by decide, by decide, rfl⟩

theorem xraC : Statement .xraC :=
  ⟨rfl, by decide, by decide, rfl⟩

theorem xraD : Statement .xraD :=
  ⟨rfl, by decide, by decide, rfl⟩

theorem xraE : Statement .xraE :=
  ⟨rfl, by decide, by decide, rfl⟩

theorem xraH : Statement .xraH :=
  ⟨rfl, by decide, by decide, rfl⟩

theorem xraL : Statement .xraL :=
  ⟨rfl, by decide, by decide, rfl⟩

theorem xraM : Statement .xraM :=
  ⟨rfl, by decide, by decide, rfl⟩

theorem xraA : Statement .xraA :=
  ⟨rfl, by decide, by decide, rfl⟩

theorem adi (d8 : Byte) : Statement (.adi d8) :=
  ⟨decide_eq_true d8.isLt, Nat.le_add_left 1 _, Nat.le_of_ble_eq_true rfl, rfl⟩

theorem aci (d8 : Byte) : Statement (.aci d8) :=
  ⟨decide_eq_true d8.isLt, Nat.le_add_left 1 _, Nat.le_of_ble_eq_true rfl, rfl⟩

theorem sui (d8 : Byte) : Statement (.sui d8) :=
  ⟨decide_eq_true d8.isLt, Nat.le_add_left 1 _, Nat.le_of_ble_eq_true rfl, rfl⟩

theorem sbi (d8 : Byte) : Statement (.sbi d8) :=
  ⟨decide_eq_true d8.isLt, Nat.le_add_left 1 _, Nat.le_of_ble_eq_true rfl, rfl⟩

theorem ani (d8 : Byte) : Statement (.ani d8) :=
  ⟨decide_eq_true d8.isLt, Nat.le_add_left 1 _, Nat.le_of_ble_eq_true rfl, rfl⟩

theorem ori (d8 : Byte) : Statement (.ori d8) :=
  ⟨decide_eq_true d8.isLt, Nat.le_add_left 1 _, Nat.le_of_ble_eq_true rfl, rfl⟩

theorem xri (d8 : Byte) : Statement (.xri d8) :=
  ⟨decide_eq_true d8.isLt, Nat.le_add_left 1 _, Nat.le_of_ble_eq_true rfl, rfl⟩

theorem jmp (a16 : Word) : Statement (.jmp a16) :=
  ⟨decide_eq_true a16.isLt, Nat.le_add_left 1 _, Nat.le_of_ble_eq_true rfl, rfl⟩

theorem ret : Statement .ret :=
  ⟨rfl, by decide, by decide, rfl⟩

theorem rst0 : Statement .rst0 :=
  ⟨rfl, by decide, by decide, rfl⟩

theorem rst1 : Statement .rst1 :=
  ⟨rfl, by decide, by decide, rfl⟩

theorem rst2 : Statement .rst2 :=
  ⟨rfl, by decide, by decide, rfl⟩

theorem rst3 : Statement .rst3 :=
  ⟨rfl, by decide, by decide, rfl⟩

theorem rst4 : Statement .rst4 :=
  ⟨rfl, by decide, by decide, rfl⟩

theorem rst5 : Statement .rst5 :=
  ⟨rfl, by decide, by decide, rfl⟩

theorem rst6 : Statement .rst6 :=
  ⟨rfl, by decide, by decide, rfl⟩

theorem rst7 : Statement .rst7 :=
  ⟨rfl, by decide, by decide, rfl⟩

theorem inPort (p8 : Byte) : Statement (.inPort p8) :=
  ⟨decide_eq_true p8.isLt, Nat.le_add_left 1 _, Nat.le_of_ble_eq_true rfl, rfl⟩

theorem outPort (p8 : Byte) : Statement (.outPort p8) :=
  ⟨decide_eq_true p8.isLt, Nat.le_add_left 1 _, Nat.le_of_ble_eq_true rfl, rfl⟩

theorem ei : Statement .ei :=
  ⟨rfl, by decide, by decide, rfl⟩

theorem di : Statement .di :=
  ⟨rfl, by decide, by decide, rfl⟩

theorem sim : Statement .sim :=
  ⟨rfl, by decide, by decide, rfl⟩

end Sys2Proof.Laws.EncodedLength
end

