-- ==== Sys2Proof/Tests/Slice0.lean ====
section
/-! SUPPORT. Tests of the model and a witness for the hypotheses of every statement. The expected results
are those of the tables of spec/95_test_vectors.md (its row ids stand in the names or the comments) and the words
those of the opcode map of spec/30_encoding.md R56; none of them comes from the model. -/

namespace Sys2Proof.Tests

open Sys2Proof.Machine

/-! ## Well-formedness: one ill-formed statement for each check (R61, R52) -/

theorem test_wellFormed_refuses_d8 : (Asm.mvi .mem 256).wellFormed = false := by decide
theorem test_wellFormed_refuses_d16 : (Asm.lxi .h 65536).wellFormed = false := by decide
theorem test_wellFormed_refuses_lxi_psw : (Asm.lxi .psw 0).wellFormed = false := by decide
theorem test_wellFormed_refuses_mov_MM : (Asm.mov .mem .mem).wellFormed = false := by decide
theorem test_wellFormed_refuses_push_sp : (Asm.push .sp).wellFormed = false := by decide
theorem test_wellFormed_refuses_pop_sp : (Asm.pop .sp).wellFormed = false := by decide
theorem test_wellFormed_refuses_immediate : (Asm.aluImmediate .adc 256).wellFormed = false := by decide
theorem test_wellFormed_refuses_a16 : (Asm.jmp 65536).wellFormed = false := by decide
theorem test_wellFormed_refuses_rst8 : (Asm.rst 8).wellFormed = false := by decide
theorem test_wellFormed_refuses_in_port : (Asm.inPort 256).wellFormed = false := by decide
theorem test_wellFormed_refuses_out_port : (Asm.outPort 256).wellFormed = false := by decide

/-! ## Decoding: every constructor, its word from the map of R56 -/

/-- Each word, with one byte after it, decodes to its instruction and leaves that byte. -/
def decodesTo (words : List (List Byte)) (instrs : List Instr) : Bool :=
  decide ((words.map fun w => decode (w ++ [0xEE])) = instrs.map fun i => some (i, [0xEE]))

theorem test_decode_control :
    decodesTo [[0b00000000], [0b01110110]]
      [.nop, .hlt] = true := by decide

theorem test_decode_lxi :
    decodesTo [[0x01, 0x34, 0x92], [0x11, 0x35, 0x92], [0x21, 0x36, 0x92], [0x31, 0x37, 0x92]]
      [.lxiB 0x9234, .lxiD 0x9235, .lxiH 0x9236, .lxiSP 0x9237] = true := by decide

theorem test_decode_mvi :
    decodesTo [[0x06, 0x81], [0x0E, 0x82], [0x16, 0x83], [0x1E, 0x84], [0x26, 0x85], [0x2E, 0x86],
      [0x36, 0x87], [0x3E, 0x88]]
      [.mviB 0x81, .mviC 0x82, .mviD 0x83, .mviE 0x84, .mviH 0x85, .mviL 0x86, .mviM 0x87,
      .mviA 0x88] = true := by decide

theorem test_decode_io_interrupt :
    decodesTo [[0b00110000], [0b11010011, 0x82], [0b11011011, 0x83], [0b11110011], [0b11111011]]
      [.sim, .outPort 0x82, .inPort 0x83, .di, .ei] = true := by decide

theorem test_decode_mov_B :
    decodesTo [[0x40], [0x41], [0x42], [0x43], [0x44], [0x45], [0x46], [0x47]]
      [.movBB, .movBC, .movBD, .movBE, .movBH, .movBL, .movBM, .movBA] = true := by decide

theorem test_decode_mov_C :
    decodesTo [[0x48], [0x49], [0x4A], [0x4B], [0x4C], [0x4D], [0x4E], [0x4F]]
      [.movCB, .movCC, .movCD, .movCE, .movCH, .movCL, .movCM, .movCA] = true := by decide

theorem test_decode_mov_D :
    decodesTo [[0x50], [0x51], [0x52], [0x53], [0x54], [0x55], [0x56], [0x57]]
      [.movDB, .movDC, .movDD, .movDE, .movDH, .movDL, .movDM, .movDA] = true := by decide

theorem test_decode_mov_E :
    decodesTo [[0x58], [0x59], [0x5A], [0x5B], [0x5C], [0x5D], [0x5E], [0x5F]]
      [.movEB, .movEC, .movED, .movEE, .movEH, .movEL, .movEM, .movEA] = true := by decide

theorem test_decode_mov_H :
    decodesTo [[0x60], [0x61], [0x62], [0x63], [0x64], [0x65], [0x66], [0x67]]
      [.movHB, .movHC, .movHD, .movHE, .movHH, .movHL, .movHM, .movHA] = true := by decide

theorem test_decode_mov_L :
    decodesTo [[0x68], [0x69], [0x6A], [0x6B], [0x6C], [0x6D], [0x6E], [0x6F]]
      [.movLB, .movLC, .movLD, .movLE, .movLH, .movLL, .movLM, .movLA] = true := by decide

theorem test_decode_mov_M :
    decodesTo [[0x70], [0x71], [0x72], [0x73], [0x74], [0x75], [0x77]]
      [.movMB, .movMC, .movMD, .movME, .movMH, .movML, .movMA] = true := by decide

theorem test_decode_mov_A :
    decodesTo [[0x78], [0x79], [0x7A], [0x7B], [0x7C], [0x7D], [0x7E], [0x7F]]
      [.movAB, .movAC, .movAD, .movAE, .movAH, .movAL, .movAM, .movAA] = true := by decide

theorem test_decode_add :
    decodesTo [[0x80], [0x81], [0x82], [0x83], [0x84], [0x85], [0x86], [0x87]]
      [.addB, .addC, .addD, .addE, .addH, .addL, .addM, .addA] = true := by decide

theorem test_decode_adc :
    decodesTo [[0x88], [0x89], [0x8A], [0x8B], [0x8C], [0x8D], [0x8E], [0x8F]]
      [.adcB, .adcC, .adcD, .adcE, .adcH, .adcL, .adcM, .adcA] = true := by decide

theorem test_decode_sub :
    decodesTo [[0x90], [0x91], [0x92], [0x93], [0x94], [0x95], [0x96], [0x97]]
      [.subB, .subC, .subD, .subE, .subH, .subL, .subM, .subA] = true := by decide

theorem test_decode_sbb :
    decodesTo [[0x98], [0x99], [0x9A], [0x9B], [0x9C], [0x9D], [0x9E], [0x9F]]
      [.sbbB, .sbbC, .sbbD, .sbbE, .sbbH, .sbbL, .sbbM, .sbbA] = true := by decide

theorem test_decode_ana :
    decodesTo [[0xA0], [0xA1], [0xA2], [0xA3], [0xA4], [0xA5], [0xA6], [0xA7]]
      [.anaB, .anaC, .anaD, .anaE, .anaH, .anaL, .anaM, .anaA] = true := by decide

theorem test_decode_xra :
    decodesTo [[0xA8], [0xA9], [0xAA], [0xAB], [0xAC], [0xAD], [0xAE], [0xAF]]
      [.xraB, .xraC, .xraD, .xraE, .xraH, .xraL, .xraM, .xraA] = true := by decide

theorem test_decode_ora :
    decodesTo [[0xB0], [0xB1], [0xB2], [0xB3], [0xB4], [0xB5], [0xB6], [0xB7]]
      [.oraB, .oraC, .oraD, .oraE, .oraH, .oraL, .oraM, .oraA] = true := by decide

theorem test_decode_pop :
    decodesTo [[0b11000001], [0b11010001], [0b11100001], [0b11110001]]
      [.popB, .popD, .popH, .popPSW] = true := by decide

theorem test_decode_jump_return :
    decodesTo [[0b11000011, 0x34, 0x92], [0b11001001]]
      [.jmp 0x9234, .ret] = true := by decide

theorem test_decode_push :
    decodesTo [[0b11000101], [0b11010101], [0b11100101], [0b11110101]]
      [.pushB, .pushD, .pushH, .pushPSW] = true := by decide

theorem test_decode_alu_immediate :
    decodesTo [[0b11000110, 0x81], [0b11001110, 0x82], [0b11010110, 0x83], [0b11011110, 0x84],
      [0b11100110, 0x85], [0b11101110, 0x86], [0b11110110, 0x87]]
      [.adi 0x81, .aci 0x82, .sui 0x83, .sbi 0x84, .ani 0x85, .xri 0x86, .ori 0x87] = true := by decide

theorem test_decode_rst :
    decodesTo [[0b11000111], [0b11001111], [0b11010111], [0b11011111], [0b11100111], [0b11101111],
      [0b11110111], [0b11111111]]
      [.rst0, .rst1, .rst2, .rst3, .rst4, .rst5, .rst6, .rst7] = true := by decide

theorem test_decode_illegal :
    (illegalBytes.filter fun b => (decode [b, 0, 0]).isSome) = [] ∧ illegalBytes.length = 93 := by
  decide

theorem test_decode_needs_operand_bytes :
    decode [] = none ∧ decode [0x06] = none ∧ decode [0x01, 0x34] = none := by decide

theorem test_decodeTableWord :
    decodeTableWord 8 0x76 = some .hlt ∧ decodeTableWord 16 0x2206 = some (.mviB 0x22) ∧
    decodeTableWord 8 0x06 = some (.mviB 0x00) ∧ decodeTableWord 24 0x1234C3 = some (.jmp 0x1234) ∧
    decodeTableWord 8 0xFD = none := by decide

/-! ## One step

The start state is the one of the conventions of spec/95_test_vectors.md; of memory it holds the bytes a test
places, and no test reads another. -/

/-- The conventions' start state at an address, with no history yet. -/
def start (pc : Word) : State := { State.reset with pc := pc, history := [] }

/-- A state with bytes placed at `PC`. -/
def load (bytes : List Byte) (s : State) : State := placeBytes s s.pc bytes

/-- A state with bytes placed at an address. -/
def poke (x : Word) (bytes : List Byte) (s : State) : State := placeBytes s x bytes

/-- What a view of the state after one step shows. -/
def after {α : Type} (s : State) (view : State → α) : Option α :=
  match step s with
  | .next t => some (view t)
  | .fault _ => none
  | .refused _ => none

/-- After one step there is a next state, and a check of it holds. -/
def passes (s : State) (check : State → Bool) : Bool :=
  match step s with
  | .next t => check t
  | .fault _ => false
  | .refused _ => false

theorem test_withFetchWord :
    after (State.reset.withFetchWord 16 0x1106) (fun t => (t.b, t.pc)) = some (0x11, 0x0002) := by decide

/-! ### T-FD -/

theorem test_FD1_nop :
    after (load [0x00] (start 0x0100)) (fun t => (t.pc, t.history)) =
      some (0x0101, [.memRead 0x0100 0x00]) := by decide

theorem test_FD2_pc_wraps : after (load [0x00] (start 0xFFFF)) (·.pc) = some 0x0000 := by decide

theorem test_FD3_FD6_hlt :
    after (load [0x76] { start 0x0100 with h := 0x20, l := 0x10 })
      (fun t => (t.pc, t.run, t.fault, t.history)) =
      some (0x0101, false, none, [.memRead 0x0100 0x76]) := by decide

theorem test_FD4_hlt_then_interrupt :
    passes (load [0x76] { start 0x0100 with sp := 0x2000, ie := true, pending := some ⟨2, some 5⟩ })
      (fun t => !t.run && !t.ie && t.pending == none && t.sp == 0x1FFE && t.pc == 0x003C &&
        memByte t 0x1FFF == 0x01 && memByte t 0x1FFE == 0x01 && outputTrace t == [.intAck 5]) = true := by
  decide

theorem test_FD7_illegal :
    passes (load [0xB8] { start 0x0100 with ie := true, pending := some ⟨0, some 5⟩ })
      (fun t => t.fault == some (.invalidOpcode 0xB8 0x0100) && t.pc == 0x0101 && t.ie &&
        t.pending == some ⟨0, some 5⟩ && t.run && outputTrace t == []) = true := by decide

theorem test_FD8_illegal :
    ([0x08, 0x20, 0x27, 0x2F, 0x32, 0x3A, 0xCD, 0xFE, 0xD9].map fun b =>
      after (load [b] (start 0x0100)) fun t => (t.fault, t.pc)) =
    ([0x08, 0x20, 0x27, 0x2F, 0x32, 0x3A, 0xCD, 0xFE, 0xD9].map fun b =>
      some (some (.invalidOpcode b 0x0100), 0x0101)) := by decide

/-! ### T-RT -/

theorem test_RT1_to_RT7_mvi :
    after (load [0x06, 0x11] (start 0x0100)) (fun t => (t.b, t.pc)) = some (0x11, 0x0102) ∧
    after (load [0x0E, 0x22] (start 0x0100)) (fun t => (t.c, t.pc)) = some (0x22, 0x0102) ∧
    after (load [0x16, 0x33] (start 0x0100)) (fun t => t.d) = some 0x33 ∧
    after (load [0x1E, 0x44] (start 0x0100)) (fun t => t.e) = some 0x44 ∧
    after (load [0x26, 0x55] (start 0x0100)) (fun t => t.h) = some 0x55 ∧
    after (load [0x2E, 0x66] (start 0x0100)) (fun t => t.l) = some 0x66 ∧
    after (load [0x3E, 0x77] { start 0x0100 with f := 0xFF }) (fun t => (t.a, t.f)) =
      some (0x77, 0xFF) := by decide

theorem test_FD5_operand_fetch_wraps :
    after (poke 0x0000 [0x99] (load [0x3E] (start 0xFFFF))) (fun t => (t.a, t.pc)) =
      some (0x99, 0x0001) := by decide

theorem test_RT8_mvi_M :
    after (load [0x36, 0x5A] { start 0x0100 with h := 0x20, l := 0x10 })
      (fun t => (memByte t 0x2010, t.pc, t.history.reverse)) =
      some (0x5A, 0x0102,
        [.memRead 0x0100 0x36, .memRead 0x0101 0x5A, .memWrite 0x2010 0x5A]) := by decide

theorem test_RT9_to_RT12_lxi :
    after (load [0x01, 0x34, 0x12] (start 0x0100)) (fun t => (t.b, t.c, t.pc)) =
      some (0x12, 0x34, 0x0103) ∧
    after (load [0x11, 0x78, 0x56] (start 0x0100)) (fun t => (t.d, t.e)) = some (0x56, 0x78) ∧
    after (load [0x21, 0xBC, 0x9A] (start 0x0100)) (fun t => (t.h, t.l)) = some (0x9A, 0xBC) ∧
    after (load [0x31, 0x00, 0x20] (start 0x0100)) (fun t => (t.sp, t.h, t.l)) =
      some (0x2000, 0x00, 0x00) := by decide

theorem test_RT13_RT14_mov :
    after (load [0x47] { start 0x0100 with a := 0x9C }) (fun t => (t.b, t.a, t.pc)) =
      some (0x9C, 0x9C, 0x0101) ∧
    after (load [0x7F] { start 0x0100 with a := 0x9C }) (fun t => (t.a, t.pc)) =
      some (0x9C, 0x0101) := by decide

theorem test_RT15_mov_HM_uses_the_old_HL :
    after (poke 0x2010 [0x30] (load [0x66] { start 0x0100 with h := 0x20, l := 0x10 }))
      (fun t => (t.h, t.l)) = some (0x30, 0x10) := by decide

theorem test_RT16_RT17_mov_to_M :
    after (load [0x74] { start 0x0100 with h := 0x20, l := 0x10 }) (memByte · 0x2010) = some 0x20 ∧
    after (load [0x73] { start 0x0100 with h := 0x20, l := 0x10, e := 0xEE }) (memByte · 0x2010) =
      some 0xEE := by decide

theorem test_RT18_mov_AM :
    after (poke 0x2010 [0x42] (load [0x7E] { start 0x0100 with h := 0x20, l := 0x10 }))
      (fun t => (t.a, t.history.reverse)) =
      some (0x42, [.memRead 0x0100 0x7E, .memRead 0x2010 0x42]) := by decide

theorem test_RT19_push_B :
    after (load [0xC5] { start 0x0100 with sp := 0x2000, b := 0x12, c := 0x34 })
      (fun t => (t.sp, t.history.reverse)) =
      some (0x1FFE,
        [.memRead 0x0100 0xC5, .memWrite 0x1FFF 0x12, .memWrite 0x1FFE 0x34]) := by decide

theorem test_RT20_RT21_push_D_H :
    after (load [0xD5] { start 0x0100 with sp := 0x2000, d := 0xAB, e := 0xCD })
      (fun t => (memByte t 0x1FFF, memByte t 0x1FFE, t.sp)) = some (0xAB, 0xCD, 0x1FFE) ∧
    after (load [0xE5] { start 0x0100 with sp := 0x2000, h := 0x01, l := 0x02 })
      (fun t => (memByte t 0x1FFF, memByte t 0x1FFE, t.sp)) = some (0x01, 0x02, 0x1FFE) := by decide

theorem test_RT22_push_psw_wraps :
    after (load [0xF5] { start 0x0100 with sp := 0x0001, a := 0x12, f := 0xFF })
      (fun t => (memByte t 0x0000, memByte t 0xFFFF, t.sp)) = some (0x12, 0xFF, 0xFFFF) := by decide

theorem test_RT23_pop_psw_wraps :
    after (poke 0xFFFF [0x2A, 0x77] (load [0xF1] { start 0x0100 with sp := 0xFFFF }))
      (fun t => (t.f, t.a, t.sp)) = some (0x2A, 0x77, 0x0001) := by decide

theorem test_RT24_to_RT26_pop :
    after (poke 0x1FFE [0x34, 0x12] (load [0xC1] { start 0x0100 with sp := 0x1FFE }))
      (fun t => (t.b, t.c, t.sp)) = some (0x12, 0x34, 0x2000) ∧
    after (poke 0x1FFE [0x34, 0x12] (load [0xD1] { start 0x0100 with sp := 0x1FFE }))
      (fun t => (t.d, t.e, t.sp)) = some (0x12, 0x34, 0x2000) ∧
    after (poke 0x1FFE [0x34, 0x12] (load [0xE1] { start 0x0100 with sp := 0x1FFE }))
      (fun t => (t.h, t.l, t.sp)) = some (0x12, 0x34, 0x2000) := by decide

theorem test_RT27_push_over_its_own_code :
    after (load [0xE5, 0x00] { start 0x0100 with sp := 0x0102, h := 0xAA, l := 0xBB })
      (fun t => (memByte t 0x0101, memByte t 0x0100, t.sp, t.pc)) =
      some (0xAA, 0xBB, 0x0100, 0x0101) := by decide

/-! ### T-ALU: `(A, F)` after one step -/

/-- A start state with `A` and `F`. -/
def alu (a f : Byte) : State := { start 0x0100 with a := a, f := f }

/-- `A` and `F` after one step. -/
def af (s : State) : Option (Byte × Byte) := after s fun t => (t.a, t.f)

theorem test_A1_to_A6_add :
    [af (load [0x80] { alu 0xFF 0x00 with b := 0x01 }), af (load [0x80] { alu 0x0F 0x00 with b := 0x01 }),
     af (load [0x80] { alu 0x80 0x00 with b := 0x80 }), af (load [0x80] { alu 0x01 0x01 with b := 0x01 }),
     af (load [0x87] (alu 0x81 0x00)), af (poke 0x2000 [0x34] (load [0x86] { alu 0x12 0x00 with h := 0x20 }))] =
    [some (0x00, 0x55), some (0x10, 0x10), some (0x00, 0x45), some (0x02, 0x00), some (0x02, 0x01),
     some (0x46, 0x00)] := by decide

theorem test_A7_to_A9_adc :
    [af (load [0x89] { alu 0xFF 0x01 with c := 0xFF }), af (load [0x89] { alu 0x10 0x01 with c := 0x20 }),
     af (load [0x89] { alu 0x10 0x00 with c := 0x20 })] =
    [some (0xFF, 0x95), some (0x31, 0x00), some (0x30, 0x04)] := by decide

theorem test_A10_to_A16_sub_sbb :
    [af (load [0x91] { alu 0x05 0x00 with c := 0x06 }), af (load [0x97] (alu 0x3C 0x00)),
     af (load [0x92] { alu 0x10 0x00 with d := 0x01 }), af (load [0x92] { alu 0x10 0x01 with d := 0x01 }),
     af (load [0x9A] { alu 0x10 0x01 with d := 0x01 }), af (load [0x9A] { alu 0x00 0x01 with d := 0xFF }),
     af (load [0x9A] { alu 0x00 0x00 with d := 0x00 })] =
    [some (0xFF, 0x85), some (0x00, 0x54), some (0x0F, 0x04), some (0x0F, 0x04), some (0x0E, 0x00),
     some (0x00, 0x45), some (0x00, 0x54)] := by decide

theorem test_A17_to_A19_ana :
    [af (load [0xA5] { alu 0xF0 0x00 with l := 0x3C }), af (load [0xA7] (alu 0x80 0x01)),
     af (load [0xA3] { alu 0x55 0x00 with e := 0xAA })] =
    [some (0x30, 0x14), some (0x80, 0x90), some (0x00, 0x54)] := by decide

theorem test_A20_to_A24_ora_xra :
    [af (load [0xB4] { alu 0x0F 0x01 with h := 0xA0 }), af (load [0xB0] (alu 0x00 0x00)),
     af (load [0xB7] (alu 0x7F 0x11)), af (load [0xAF] (alu 0x9D 0x01)),
     af (poke 0x2000 [0x0F] (load [0xAE] { alu 0xFF 0x00 with h := 0x20 }))] =
    [some (0xAF, 0x84), some (0x00, 0x44), some (0x7F, 0x00), some (0x00, 0x44),
     some (0xF0, 0x84)] := by decide

theorem test_A25_to_A31_immediate_arithmetic :
    [af (load [0xC6, 0x05] (alu 0x00 0x00)), af (load [0xC6, 0x01] (alu 0xFF 0x00)),
     af (load [0xCE, 0x00] (alu 0xFF 0x01)), af (load [0xCE, 0x00] (alu 0xFF 0x00)),
     af (load [0xD6, 0x01] (alu 0x00 0x00)), af (load [0xDE, 0x02] (alu 0x05 0x01)),
     af (load [0xDE, 0x02] (alu 0x05 0x00))] =
    [some (0x05, 0x04), some (0x00, 0x55), some (0x00, 0x55), some (0xFF, 0x84), some (0xFF, 0x85),
     some (0x02, 0x10), some (0x03, 0x14)] := by decide

theorem test_A32_to_A35_immediate_logic :
    [af (load [0xE6, 0x0F] (alu 0x5A 0x00)), af (load [0xF6, 0x0A] (alu 0x50 0x00)),
     af (load [0xEE, 0xFF] (alu 0xAA 0x00)), af (load [0xEE, 0xAA] (alu 0xAA 0x00))] =
    [some (0x0A, 0x14), some (0x5A, 0x04), some (0x55, 0x04), some (0x00, 0x44)] := by decide

/-- The decode coverage line under T-ALU: `ADD s` for `s = 0..7`, each register its own value. -/
theorem test_S4_add_operand_order :
    ([0x80, 0x81, 0x82, 0x83, 0x84, 0x85, 0x86, 0x87].map fun op =>
      after (poke 0x1020 [0x40] (load [op]
        { start 0x0100 with b := 0x01, c := 0x02, d := 0x04, e := 0x08, h := 0x10, l := 0x20 }))
        (fun t => t.a)) =
    [some 0x01, some 0x02, some 0x04, some 0x08, some 0x10, some 0x20, some 0x40, some 0x00] := by decide

/-! ### T-CF -/

theorem test_CF1_CF2_jmp :
    after (load [0xC3, 0x34, 0x12] (start 0x0100)) (fun t => (t.pc, t.sp)) = some (0x1234, 0x0000) ∧
    after (poke 0x0000 [0x12] (load [0xC3, 0x34] (start 0xFFFE))) (fun t => t.pc) = some 0x1234 := by
  decide

theorem test_CF4_CF14_ret :
    after (poke 0x1FFE [0x03, 0x01] (load [0xC9] { start 0x0100 with sp := 0x1FFE }))
      (fun t => (t.pc, t.sp)) = some (0x0103, 0x2000) ∧
    after (poke 0xFFFF [0x40, 0x00] (load [0xC9] { start 0x0100 with sp := 0xFFFF }))
      (fun t => (t.pc, t.sp)) = some (0x0040, 0x0001) := by decide

theorem test_CF5_to_CF12_rst :
    ([0xC7, 0xCF, 0xD7, 0xDF, 0xE7, 0xEF, 0xF7, 0xFF].map fun op =>
      after (load [op] { start 0x0102 with sp := 0x2000 }) fun t =>
        (memByte t 0x1FFF, memByte t 0x1FFE, t.sp, t.pc)) =
    ([0x0000, 0x0008, 0x0010, 0x0018, 0x0020, 0x0028, 0x0030, 0x0038].map fun vector =>
      some (0x01, 0x03, 0x1FFE, vector)) := by decide

theorem test_CF13_rst_at_the_top :
    after (load [0xFF] { start 0xFFFF with sp := 0x0000 })
      (fun t => (memByte t 0xFFFF, memByte t 0xFFFE, t.sp, t.pc)) =
      some (0x00, 0x00, 0xFFFE, 0x0038) := by decide

/-! ### T-IO -/

theorem test_IO1_in :
    after (load [0xDB, 0x10] { start 0x0100 with f := 0x80, ioAnswers := [0xA5] })
      (fun t => (t.a, t.pc, t.f, t.history.head?)) =
      some (0xA5, 0x0102, 0x80, some (.ioRead 0x10 0xA5)) := by decide

theorem test_IO2_out :
    after (load [0xD3, 0x01] { start 0x0100 with a := 0x46 }) (fun t => (outputTrace t, t.a, t.pc)) =
      some ([.ioWrite 0x01 0x46], 0x46, 0x0102) := by decide

theorem test_IO3_ei_serviced_at_once :
    passes (load [0xFB] { start 0x0100 with sp := 0x2000, pending := some ⟨1, none⟩ })
      (fun t => !t.ie && outputTrace t == [] && memByte t 0x1FFF == 0x01 && memByte t 0x1FFE == 0x01 &&
        t.sp == 0x1FFE && t.pc == 0x0034 && t.pending == none) = true := by decide

theorem test_IO9_ei_idempotent :
    after (load [0xFB] { start 0x0100 with ie := true }) (fun t => (t.ie, t.pc)) =
      some (true, 0x0101) := by decide

theorem test_IO4_di :
    after (load [0xF3] { start 0x0100 with sp := 0x2000, ie := true, pending := some ⟨1, some 5⟩ })
      (fun t => (t.ie, t.pc, t.pending, t.sp)) = some (false, 0x0101, some ⟨1, some 5⟩, 0x2000) := by
  decide

theorem test_IO5_to_IO8_sim :
    [after (load [0x30] { start 0x0100 with a := 0x0D, mask := 0b000 }) (fun t => t.mask),
     after (load [0x30] { start 0x0100 with a := 0x07, mask := 0b010 }) (fun t => t.mask),
     after (load [0x30] { start 0x0100 with a := 0xF8, mask := 0b111 }) (fun t => t.mask),
     after (load [0x30] { start 0x0100 with a := 0x0F, mask := 0b000 }) (fun t => t.mask)] =
    [some 0b101, some 0b010, some 0b000, some 0b111] := by decide

/-! ### T-INT: the events are the scheduled ones of the boundaries of one step -/

theorem test_INT1_INT2_request_masked :
    applyEvent config (.request 1 (some 5)) { start 0x0100 with mask := 0b010 } =
      .next { start 0x0100 with mask := 0b010 } ∧
    applyEvent config (.request 0 (some 5)) { start 0x0100 with mask := 0b010 } =
      .next { start 0x0100 with mask := 0b010, pending := some ⟨0, some 5⟩ } := ⟨rfl, rfl⟩

theorem test_INT3_service :
    passes (load [0x00] { start 0x0100 with sp := 0x2000, ie := true, pending := some ⟨0, some 5⟩ })
      (fun t => !t.ie && memByte t 0x1FFF == 0x01 && memByte t 0x1FFE == 0x01 && t.sp == 0x1FFE &&
        t.pc == 0x002C && t.pending == none && t.history.reverse ==
          [.memRead 0x0100 0x00, .intAck 5, .memWrite 0x1FFF 0x01, .memWrite 0x1FFE 0x01]) = true := by
  decide

theorem test_INT4_no_service_when_disabled :
    after (load [0x00] { start 0x0100 with sp := 0x2000, pending := some ⟨0, some 5⟩ })
      (fun t => (t.pc, t.pending, t.sp)) = some (0x0101, some ⟨0, some 5⟩, 0x2000) := by decide

theorem test_INT5_last_request_wins :
    after (load [0x00] { start 0x0100 with
        sp := 0x2000, ie := true, schedule := [[.request 0 (some 6), .request 2 (some 7)]] })
      (fun t => (outputTrace t, t.pc, memByte t 0x1FFF, memByte t 0x1FFE, t.sp)) =
      some ([.intAck 7], 0x003C, 0x01, 0x01, 0x1FFE) := by decide

theorem test_INT7_request_between_the_phases :
    after (load [0x00] { start 0x0100 with
        sp := 0x2000, ie := true, schedule := [[.request 1 (some 5)]] })
      (fun t => (t.pc, memByte t 0x1FFF, memByte t 0x1FFE)) = some (0x0034, 0x01, 0x01) := by decide

/-- INT8, INT9: the trap at the boundary after the step of a `NOP` at 0x0100, where `PC` is 0x0101. -/
theorem test_INT8_INT9_trap :
    passes (load [0x00] { start 0x0100 with
        sp := 0x2000, ie := true, mask := 0b111, schedule := [[], [.trap]] })
      (fun t => memByte t 0x1FFF == 0x01 && memByte t 0x1FFE == 0x01 && t.sp == 0x1FFE &&
        t.pc == 0x0024 && t.ie && t.mask == 0b111 && outputTrace t == []) = true ∧
    after (load [0x00] { start 0x0100 with
        sp := 0x2000, ie := false, mask := 0b111, schedule := [[], [.trap]] })
      (fun t => (memByte t 0x1FFF, memByte t 0x1FFE, t.sp, t.pc, t.ie)) =
      some (0x01, 0x01, 0x1FFE, 0x0024, false) := by decide

theorem test_INT10_trap_before_service :
    passes (load [0x00] { start 0x0100 with
        sp := 0x2000, ie := true, pending := some ⟨0, some 5⟩, schedule := [[.trap]] })
      (fun t => memByte t 0x1FFF == 0x01 && memByte t 0x1FFE == 0x01 && memByte t 0x1FFD == 0x00 &&
        memByte t 0x1FFC == 0x24 && t.sp == 0x1FFC && t.pc == 0x002C && !t.ie &&
        outputTrace t == [.intAck 5]) = true := by decide

theorem test_INT11_INT12_stopped_machine_takes_the_request :
    after { start 0x0100 with run := false, ie := true, schedule := [[.request 0 (some 5)]] }
      (fun t => (t.pending, t.pc, t.run, outputTrace t)) =
      some (some ⟨0, some 5⟩, 0x0100, false, []) ∧
    after { start 0x0100 with
        fault := some (.invalidOpcode 0xB8 0x00FF), schedule := [[.request 0 (some 5)]] }
      (fun t => (t.pending, t.pc, t.fault)) =
      some (some ⟨0, some 5⟩, 0x0100, some (.invalidOpcode 0xB8 0x00FF)) := by decide

theorem test_INT13_request_outside_the_interface :
    applyEvent config (.request 3 (some 5)) (start 0x0100) = .refused (.requestOutsideInterface 3) :=
  rfl

/-! ### T-RST -/

/-- A faulted state. -/
def faultedState : State := { start 0x0101 with fault := some (.invalidOpcode 0xB8 0x0100) }

theorem test_RS1_reset :
    passes { faultedState with mask := 0b101, ie := true, a := 0x12, schedule := [[.reset]] }
      (fun t => t.mask == 0b000 && t.pending == none && !t.ie && t.run && t.fault == none &&
        t.pc == 0x0000 && t.sp == 0x0000 && t.a == 0x00 && t.phase == .exec &&
        memByte t 0x0000 == 0x76) = true ∧
    [State.reset.a, State.reset.b, State.reset.c, State.reset.d, State.reset.e, State.reset.h,
      State.reset.l, State.reset.f] = List.replicate 8 0x00 := by decide

theorem test_RS2_bare_reset :
    after State.reset (fun t => (t.pc, t.run, t.fault)) = some (0x0001, false, none) := by decide

theorem test_RS3_reset_of_a_faulted_state :
    after { start 0x0101 with
        fault := some (.invalidOpcode 0xB8 0x0100), run := true, ie := true,
        pending := some ⟨0, some 5⟩, schedule := [[.reset]] }
      (fun t => (t.fault, t.run, t.pending, t.ie, t.pc)) = some (none, true, none, false, 0x0000) := by
  decide

/-- RS4: the host's load at 0x0000 overwrites the seed. -/
theorem test_RS4_load_overwrites_the_seed :
    after (load [0x3E, 0x01, 0x00] State.reset) (fun t => (t.a, t.pc, memByte t 0x0002)) =
      some (0x01, 0x0002, 0x00) := by decide

/-! ## Witnesses: the hypotheses of every statement can be met -/

theorem witness_DecodedBytesAreTheEncoding :
    decode [0x21, 0x34, 0x12, 0xFF] = some (.lxiH 0x1234, [0xFF]) := by decide

/-- A unit with no carry at all. -/
def plainUnit : ExecutionUnit where
  alu := fun op _ a _ x => (aluResult op false a x, 0x00)
  carry := fun _ => false

/-- A configuration with another OR block, another unit and another vector spacing. -/
def otherConfig : Config :=
  { config with oraBase := 0xB8, rstStride := 4, eu := plainUnit }

theorem witness_IllegalBytes_other_configuration :
    (¬ inAluBlock otherConfig .ora 0xB7 ∧ (0xB0 ≤ (0xB7 : Byte).toNat ∧ (0xB7 : Byte).toNat ≤ 0xB7)) ∧
    (inAluBlock otherConfig .ora 0xB8 ∧ 0xB8 ∈ illegalBytes) := by decide

theorem witness_IllegalBytesAreThoseListed :
    0x02 ∈ illegalBytes ∧ 0xFE ∈ illegalBytes ∧ 0x00 ∉ illegalBytes ∧ 0xFF ∉ illegalBytes := by decide

theorem witness_OpcodeAloneDeterminesLength :
    decodeOpcode config 0x06 0x01 0x02 = some (.mviB 0x01) ∧
    decodeOpcode config 0x06 0x03 0x04 = some (.mviB 0x03) := by decide

/-- An overlapping `ORA_BASE`: 0xA7 stays with AND, 0xA8 and 0xAB are taken by OR, 0xAC is XOR's. -/
theorem witness_AluCheckingOrder_family :
    let c := { config with oraBase := 0xA4 }
    ([.add, .adc, .sub, .sbb] ++ .ana :: [.ora, .xra] = checkingOrder ∧ inAluBlock c .ana 0xA7 ∧
      ∀ g ∈ [AluFamily.add, .adc, .sub, .sbb], ¬ inAluBlock c g 0xA7) ∧
    ([.add, .adc, .sub, .sbb, .ana] ++ .ora :: [.xra] = checkingOrder ∧ inAluBlock c .ora 0xA8 ∧
      inAluBlock c .ora 0xAB ∧
      ∀ g ∈ [AluFamily.add, .adc, .sub, .sbb, .ana], ¬ inAluBlock c g 0xA8 ∧ ¬ inAluBlock c g 0xAB) ∧
    ([.add, .adc, .sub, .sbb, .ana, .ora] ++ .xra :: [] = checkingOrder ∧ inAluBlock c .xra 0xAC ∧
      ∀ g ∈ [AluFamily.add, .adc, .sub, .sbb, .ana, .ora], ¬ inAluBlock c g 0xAC) := by decide

theorem witness_AluCheckingOrder_no_block :
    (∀ g, ¬ inAluBlock config g 0x7F) ∧ (∀ g, ¬ inAluBlock config g 0xB8) ∧
      ∀ g, ¬ inAluBlock config g 0xBF := by
  refine ⟨?_, ?_, ?_⟩ <;> intro g <;> cases g <;> decide

theorem witness_AssemblerSpellings :
    (Asm.mvi .mem 255).wellFormed = true ∧ (Asm.mvi .mem 256).wellFormed = false ∧
    (Asm.rst 7).wellFormed = true ∧ (Asm.rst 8).wellFormed = false := by decide

/-- `MVI B, 0x11` at 0x0100, a `NOP` after it. -/
def mviState : State := load [0x06, 0x11, 0x00] (start 0x0100)

theorem witness_StepRunsTheDecodedInstruction :
    mviState.run = true ∧ mviState.fault = none ∧ mviState.phase = .exec ∧
    decode [memByte mviState mviState.pc, memByte mviState (mviState.pc + 1),
      memByte mviState (mviState.pc + 2)] = some (.mviB 0x11, [0x00]) ∧
    ∃ u, exec (.mviB 0x11) { mviState with
        pc := mviState.pc + 1
        ir := memByte mviState mviState.pc
        history := .memRead mviState.pc (memByte mviState mviState.pc) :: mviState.history } = .next u ∧
      u.fault = none ∧ u.schedule = [] :=
  ⟨rfl, rfl, rfl, by decide, _, rfl, rfl, rfl⟩

/-- `ORA B` of the other configuration. -/
def otherState : State := load [0xB8, 0x00, 0x00] { start 0x0100 with a := 0x50, b := 0x0F }

/-- With `ORA_BASE` 0xB8 the byte 0xB8 is `ORA B` and 0xB0 is illegal (R57, R55). -/
theorem test_other_ora_base :
    decodeWith otherConfig [0xB8] = some (.oraB, []) ∧ decodeWith otherConfig [0xB0] = none := by decide

theorem witness_StepRuns_other_configuration :
    otherState.run = true ∧ otherState.fault = none ∧ otherState.phase = .exec ∧
    decodeWith otherConfig [memByte otherState otherState.pc, memByte otherState (otherState.pc + 1),
      memByte otherState (otherState.pc + 2)] = some (.oraB, [0x00, 0x00]) ∧
    ∃ u, execWith otherConfig .oraB { otherState with
        pc := otherState.pc + 1
        ir := memByte otherState otherState.pc
        history := .memRead otherState.pc (memByte otherState otherState.pc) :: otherState.history } =
        .next u ∧ u.fault = none ∧ u.schedule = [] ∧ u.a = 0x5F :=
  ⟨rfl, rfl, rfl, by decide, _, rfl, rfl, rfl, by decide⟩

/-- What the `ExecPhaseProgramCounter` statement asks of a state: an `Exec` phase that answers, and the
instruction at `PC`. -/
def execPhaseReads (s : State) (i : Instr) : Prop :=
  ∃ t rest, execPhase config s = .next t ∧
    decode [memByte s s.pc, memByte s (s.pc + 1), memByte s (s.pc + 2)] = some (i, rest)

theorem witness_ExecPhase_straight :
    execPhaseReads mviState (.mviB 0x11) ∧ transfersControl (Instr.mviB 0x11).asm = false :=
  ⟨⟨_, _, rfl, rfl⟩, rfl⟩

theorem witness_ExecPhase_jmp :
    execPhaseReads (load [0xC3, 0x34, 0x12] (start 0x0100)) (.jmp 0x1234) := ⟨_, _, rfl, rfl⟩

theorem witness_ExecPhase_ret : execPhaseReads (load [0xC9] (start 0x0100)) .ret := ⟨_, _, rfl, rfl⟩

theorem witness_ExecPhase_rst :
    execPhaseReads (load [0xC7] (start 0x0100)) (rstInstr 0) ∧
    execPhaseReads (load [0xFF] (start 0x0100)) (rstInstr 7) := ⟨⟨_, _, rfl, rfl⟩, ⟨_, _, rfl, rfl⟩⟩

theorem witness_ExecPhase_illegal :
    (∃ t, execPhase config (load [0xB8] (start 0x0100)) = .next t) ∧
    memByte (load [0xB8] (start 0x0100)) 0x0100 ∈ illegalBytes := ⟨⟨_, rfl⟩, by decide⟩

/-- A running state at a byte, `IE` set and a request pending. -/
def pendingState (op : Byte) (line : Fin 3) : State :=
  load [op] { start 0x0100 with sp := 0x2000, ie := true, pending := some ⟨line, some 5⟩ }

theorem witness_HltStops_interrupt :
    (pendingState 0x76 2).run = true ∧ (pendingState 0x76 2).fault = none ∧
    (pendingState 0x76 2).phase = .exec ∧ (pendingState 0x76 2).schedule = [] ∧
    memByte (pendingState 0x76 2) (pendingState 0x76 2).pc = 0x76 ∧ (pendingState 0x76 2).ie = true ∧
    (pendingState 0x76 2).pending = some ⟨2, some 5⟩ := by decide

theorem witness_HltStops_plain :
    State.reset.run = true ∧ State.reset.fault = none ∧ State.reset.phase = .exec ∧
    State.reset.schedule = [] ∧ memByte State.reset State.reset.pc = 0x76 ∧
    (State.reset.ie = false ∨ State.reset.pending = none) := by decide

theorem witness_PopLoadsPair : Pair.hl ≠ Pair.af := by decide

theorem witness_StorageReadsBack : ∃ o : Operand, o = .mem := ⟨_, rfl⟩

theorem witness_AnyUnitGivesTheResult :
    meetsContract otherConfig.eu ∧ otherConfig.subIsSubtract = true :=
  ⟨fun _ useCarry _ _ _ => by simp [otherConfig, plainUnit], rfl⟩

theorem witness_ReturnUndoes_and_Service :
    (pendingState 0x00 0).ie = true ∧ (pendingState 0x00 0).pending = some ⟨0, some 5⟩ ∧
    (pendingState 0x00 2).pending = some ⟨2, some 5⟩ := by decide

theorem witness_Service_does_nothing :
    State.reset.ie = false ∧ State.reset.pending = none := by decide

theorem witness_InReadsThePort :
    ({ State.reset with ioAnswers := [0xA5] } : State).ioAnswers = [0xA5] ∧
    State.reset.ioAnswers = [] := by decide

theorem witness_SimSetsTheMask :
    ({ State.reset with a := 0x08 } : State).a.getLsbD 3 = true ∧
    ({ State.reset with a := 0xF7 } : State).a.getLsbD 3 = false := by decide

theorem witness_EiTakesAPendingRequestAtOnce :
    let s := { pendingState 0xFB 1 with ie := false }
    s.run = true ∧ s.fault = none ∧ s.phase = .exec ∧ s.schedule = [] ∧
    s.pending = some ⟨1, some 5⟩ ∧ memByte s s.pc = 0xFB := by decide

theorem witness_RequestIsMasked :
    ({ State.reset with mask := 0b100 } : State).mask.getLsbD (2 : Fin 3) = true ∧
    ({ State.reset with mask := 0b100 } : State).mask.getLsbD (0 : Fin 3) = false ∧
    3 ≤ (3 : Nat) := by decide

theorem witness_TrapBeforeServiceNests :
    let s := { pendingState 0x00 0 with phase := .service, schedule := [[.trap], []] }
    s.phase = .service ∧ s.fault = none ∧ s.ie = true ∧ s.pending = some ⟨0, some 5⟩ ∧
    s.schedule = [.trap] :: [] :: [] := by decide

theorem witness_IllegalOpcodeLatches :
    let s := pendingState 0xB8 0
    s.run = true ∧ s.fault = none ∧ s.phase = .exec ∧ s.schedule = [] ∧
    memByte s s.pc ∈ illegalBytes := by decide

/-- A halted state. -/
def haltedState : State := { start 0x0101 with run := false }

theorem witness_StoppedMachine_faulted :
    faultedState.fault = some (.invalidOpcode 0xB8 0x0100) ∧ faultedState.schedule = [] := by decide

theorem witness_StoppedMachine_halted :
    IsHalted haltedState ∧ haltedState.phase = .exec ∧ haltedState.schedule = [] :=
  ⟨⟨rfl, rfl⟩, rfl, rfl⟩

theorem witness_StoppedMachine_events :
    (({ faultedState with schedule := [[.reset]] } : State).schedule = [[.reset]] ∧
      ({ faultedState with schedule := [[.reset]] } : State).fault ≠ none) ∧
    (({ haltedState with schedule := [[.trap]] } : State).schedule = [[.trap]] ∧
      ({ haltedState with schedule := [[.trap]] } : State).run = false ∧
      ({ haltedState with schedule := [[.trap]] } : State).phase = .exec) := by decide

theorem witness_FaultStaysUntilReset :
    let s : State := { faultedState with schedule := [[.trap]] }
    (∃ t, step s = .next t) ∧ s.fault ≠ none ∧ ∀ evs ∈ s.schedule, Event.reset ∉ evs :=
  ⟨⟨_, rfl⟩, by decide, by decide⟩

theorem witness_RunIsSetOnlyByReset :
    let s : State := { haltedState with schedule := [[.request 0 none]] }
    (∃ t, step s = .next t) ∧ s.run = false ∧ ∀ evs ∈ s.schedule, Event.reset ∉ evs :=
  ⟨⟨_, rfl⟩, by decide, by decide⟩

theorem witness_InvalidByteIsUnreachable :
    let s : State := { haltedState with
      fault := some (.invalidByte 0 0x0100), schedule := [[.request 0 none]] }
    ∃ t, step s = .next t ∧ t.fault = some (.invalidByte 0 0x0100) := ⟨_, rfl, by decide⟩

theorem witness_OnlyListedInstructionsWriteRegisters :
    (∃ t, exec (.mviB 0x11) State.reset = .next t) ∧ mayWriteReg (Instr.mviB 0x11).asm .c = false ∧
    mayWriteFlags (Instr.mviB 0x11).asm = false := ⟨⟨_, rfl⟩, by decide, by decide⟩

theorem witness_OnlyListedInstructionsWriteControlState :
    (∃ t, exec .addB State.reset = .next t) ∧ mayWriteStackPointer Instr.addB.asm = false ∧
    Instr.addB ≠ .ei ∧ Instr.addB ≠ .di ∧ Instr.addB ≠ .sim ∧ Instr.addB ≠ .hlt ∧
    mayWriteMemory Instr.addB.asm = false :=
  ⟨⟨_, rfl⟩, by decide, by decide, by decide, by decide, by decide, by decide⟩

theorem witness_NoInstructionReadsInterruptState : ∃ t, exec .ei State.reset = .next t := ⟨_, rfl⟩

theorem witness_StepKeepsTheInvariant : StepInv mviState ∧ ∃ t, step mviState = .next t :=
  ⟨⟨by decide, rfl⟩, _, rfl⟩

theorem witness_StepKeeps_other_configuration :
    StepInv otherState ∧ BusCoherent (fun x => memByte otherState x) otherState ∧
    ∃ t, stepWith otherConfig otherState = .next t :=
  ⟨⟨by decide, rfl⟩, ⟨fun _ => rfl, trivial⟩, _, rfl⟩

theorem witness_StepKeepsTheBusCoherent :
    BusCoherent (fun x => memByte mviState x) mviState ∧ ∃ t, step mviState = .next t :=
  ⟨⟨fun _ => rfl, trivial⟩, _, rfl⟩

theorem witness_HistoryOnlyGrows : ∃ t, step State.reset = .next t := ⟨_, rfl⟩

end Sys2Proof.Tests
end

section
/-! The shared operations without a law in Sys2Proof/Laws, and the frame of every instruction: what `effect`
leaves unchanged, field by field. -/

namespace Sys2Proof.Machine

/-! ## The operand forms and the Execution Unit's call, each as one state -/

/-- R12: everything `RdOp8` does: the operand's value, and its bus reads in the history. -/
theorem rdOp8_eq (o : Operand) (s : State) :
    rdOp8 o s =
      (operandValue o s, { s with history := (operandReads o s).reverse ++ s.history }) := by
  cases o <;> rfl

/-- R110: everything the Execution Unit's call does: `A` and `F` get its two answers. -/
theorem aluApply_eq (c : Config) (family : AluFamily) (x : Byte) (s : State) :
    aluApply c family x s =
      { s with
        a := (c.eu.alu (aluSelect c family).1 (aluSelect c family).2 s.a s.f x).1
        f := (c.eu.alu (aluSelect c family).1 (aluSelect c family).2 s.a s.f x).2 } := rfl

@[simp] theorem wrOp8_f (o : Operand) (v : Byte) (s : State) : (wrOp8 o v s).f = s.f := by cases o <;> simp [wrOp8]
@[simp] theorem wrOp8_pc (o : Operand) (v : Byte) (s : State) : (wrOp8 o v s).pc = s.pc := by cases o <;> simp [wrOp8]
@[simp] theorem wrOp8_sp (o : Operand) (v : Byte) (s : State) : (wrOp8 o v s).sp = s.sp := by cases o <;> simp [wrOp8]
@[simp] theorem wrOp8_ie (o : Operand) (v : Byte) (s : State) : (wrOp8 o v s).ie = s.ie := by cases o <;> simp [wrOp8]
@[simp] theorem wrOp8_mask (o : Operand) (v : Byte) (s : State) : (wrOp8 o v s).mask = s.mask := by cases o <;> simp [wrOp8]
@[simp] theorem wrOp8_pending (o : Operand) (v : Byte) (s : State) : (wrOp8 o v s).pending = s.pending := by cases o <;> simp [wrOp8]
@[simp] theorem wrOp8_run (o : Operand) (v : Byte) (s : State) : (wrOp8 o v s).run = s.run := by cases o <;> simp [wrOp8]
@[simp] theorem wrOp8_fault (o : Operand) (v : Byte) (s : State) : (wrOp8 o v s).fault = s.fault := by cases o <;> simp [wrOp8]
@[simp] theorem wrOp8_ir (o : Operand) (v : Byte) (s : State) : (wrOp8 o v s).ir = s.ir := by cases o <;> simp [wrOp8]
@[simp] theorem wrOp8_phase (o : Operand) (v : Byte) (s : State) : (wrOp8 o v s).phase = s.phase := by cases o <;> simp [wrOp8]
@[simp] theorem wrOp8_schedule (o : Operand) (v : Byte) (s : State) : (wrOp8 o v s).schedule = s.schedule := by cases o <;> simp [wrOp8]

/-! What the fetch of one operand byte leaves. -/

@[simp] theorem fetched_f (s : State) : (fetched s).f = s.f := rfl
@[simp] theorem fetched_sp (s : State) : (fetched s).sp = s.sp := rfl
@[simp] theorem fetched_ie (s : State) : (fetched s).ie = s.ie := rfl
@[simp] theorem fetched_mask (s : State) : (fetched s).mask = s.mask := rfl
@[simp] theorem fetched_pending (s : State) : (fetched s).pending = s.pending := rfl
@[simp] theorem fetched_run (s : State) : (fetched s).run = s.run := rfl
@[simp] theorem fetched_fault (s : State) : (fetched s).fault = s.fault := rfl
@[simp] theorem fetched_ir (s : State) : (fetched s).ir = s.ir := rfl
@[simp] theorem fetched_mem (s : State) : (fetched s).mem = s.mem := rfl
@[simp] theorem fetched_phase (s : State) : (fetched s).phase = s.phase := rfl
@[simp] theorem fetched_schedule (s : State) : (fetched s).schedule = s.schedule := rfl
@[simp] theorem fetched_pc (s : State) : (fetched s).pc = s.pc + 1#16 := rfl

/-! ## Registers after an operation that writes others -/

@[simp] theorem getReg_fetched (r : Reg) (s : State) : getReg r (fetched s) = getReg r s := by
  cases r <;> rfl

@[simp] theorem getReg_rdOp8 (r : Reg) (o : Operand) (s : State) :
    getReg r (rdOp8 o s).2 = getReg r s := by
  cases o <;> simp [rdOp8]

@[simp] theorem wrOp8_mem_of_ne {o : Operand} (h : o ≠ .mem) (v : Byte) (s : State) :
    (wrOp8 o v s).mem = s.mem := by
  cases o with
  | reg r => simp [wrOp8]
  | mem => exact absurd rfl h

theorem getReg_wrOp8_other {o : Operand} {r : Reg} (h : o ≠ .reg r) (v : Byte) (s : State) :
    getReg r (wrOp8 o v s) = getReg r s := by
  cases o with
  | reg q => exact getReg_setReg_other (fun e => h (congrArg _ e.symm)) v s
  | mem => exact getReg_memWrite r _ v s

theorem getReg_wrPair_other {p : Pair} {r : Reg} (h : r ∉ pairRegs p) (w : Word) (s : State) :
    getReg r (wrPair p w s) = getReg r s := by
  cases p <;> cases r <;> simp_all [pairRegs, wrPair, getReg]

theorem wrPair_f_of_ne {p : Pair} (h : p ≠ .af) (w : Word) (s : State) :
    (wrPair p w s).f = s.f := by
  cases p <;> simp_all [wrPair]

theorem getReg_aluApply_other {r : Reg} (h : r ≠ .a) (c : Config) (family : AluFamily) (x : Byte)
    (s : State) : getReg r (aluApply c family x s) = getReg r s := by
  cases r <;> simp_all [aluApply_eq, getReg]

/-! ## The frame of every instruction

Each proof looks at every branch of `effect`: the hypothesis excludes the branches that may write the field,
and in each other branch every shared operation keeps it. -/

theorem effect_getReg (c : Config) {stmt : Asm} {r : Reg} (h : mayWriteReg stmt r = false)
    (s : State) : getReg r (effect c stmt s) = getReg r s := by
  cases stmt with
  | nop | hlt | jmp _ | ret | rst _ | outPort _ | ei | di | sim => cases r <;> rfl
  | mvi dest _ =>
    have hd : dest ≠ .reg r := by rintro rfl; simp [mayWriteReg] at h
    simp [effect, getReg_wrOp8_other hd]
  | lxi pair _ =>
    cases pair with
    | sp | psw => cases r <;> rfl
    | b | d | h => simp_all [effect, mayWriteReg, getReg_wrPair_other, pairRegs]
  | mov dest source =>
    have hd : dest ≠ .reg r := by rintro rfl; simp [mayWriteReg] at h
    cases dest with
    | reg q => simp [effect, getReg_wrOp8_other hd]
    | mem => cases source <;> simp [effect, getReg_wrOp8_other hd]
  | push pair => cases pair <;> simp [effect]
  | pop pair =>
    cases pair with
    | sp => rfl
    | b | d | h | psw => simp_all [effect, mayWriteReg, getReg_wrPair_other, pairRegs]
  | alu _ _ | aluImmediate _ _ | inPort _ =>
    simp_all [effect, mayWriteReg, getReg_aluApply_other, getReg_setReg_other]

theorem effect_f (c : Config) {stmt : Asm} (h : mayWriteFlags stmt = false) (s : State) :
    (effect c stmt s).f = s.f := by
  unfold effect
  split <;> simp_all [rdOp8_eq, wrPair_f_of_ne, mayWriteFlags]

theorem effect_sp (c : Config) {stmt : Asm} (h : mayWriteStackPointer stmt = false) (s : State) :
    (effect c stmt s).sp = s.sp := by
  unfold effect
  split <;> simp_all [rdOp8_eq, aluApply_eq, mayWriteStackPointer]

theorem effect_ie (c : Config) {stmt : Asm} (hei : stmt ≠ .ei) (hdi : stmt ≠ .di) (s : State) :
    (effect c stmt s).ie = s.ie := by
  unfold effect
  split <;> simp_all [rdOp8_eq, aluApply_eq]

theorem effect_mask (c : Config) {stmt : Asm} (h : stmt ≠ .sim) (s : State) :
    (effect c stmt s).mask = s.mask := by
  unfold effect
  split <;> simp_all [rdOp8_eq, aluApply_eq]

theorem effect_run (c : Config) {stmt : Asm} (h : stmt ≠ .hlt) (s : State) :
    (effect c stmt s).run = s.run := by
  unfold effect
  split <;> simp_all [rdOp8_eq, aluApply_eq]

theorem effect_mem (c : Config) {stmt : Asm} (h : mayWriteMemory stmt = false) (s : State) :
    (effect c stmt s).mem = s.mem := by
  have hmvi : ∀ dest n, stmt = .mvi dest n → dest ≠ .mem := by
    rintro dest n rfl rfl; simp [mayWriteMemory] at h
  unfold effect
  split <;> simp_all [rdOp8_eq, aluApply_eq, mayWriteMemory]

theorem effect_keepsSequencer (c : Config) (stmt : Asm) (s : State) :
    KeepsSequencer s (effect c stmt s) := by
  unfold effect
  split <;> simp [KeepsSequencer, rdOp8_eq, aluApply_eq]

theorem effect_mem_wf (c : Config) (stmt : Asm) {s : State} (h : Memory.wf s.mem = true) :
    Memory.wf (effect c stmt s).mem = true := by
  cases hw : mayWriteMemory stmt with
  | false => rwa [effect_mem c hw]
  | true =>
    cases stmt with
    | mvi dest _ => exact wrOp8_wf (s := fetched s) h dest _
    | mov dest source =>
      cases dest with
      | reg _ => simp [mayWriteMemory] at hw
      | mem =>
        cases source with
        | reg _ => exact wrOp8_wf h .mem _
        | mem => exact h
    | push pair =>
      cases pair with
      | sp => exact h
      | b | d | h | psw => exact push16_wf h _
    | rst _ => exact restart_wf h _
    | _ => simp [mayWriteMemory] at hw

theorem instr_wellFormed (i : Instr) : i.asm.wellFormed = true := by
  cases i <;> simp [Instr.asm, Asm.wellFormed, PairName.isLoadable, PairName.isStackable] <;>
    exact BitVec.isLt _

/-- R14: a well-formed statement at the address `x` that transfers no control leaves `PC` after its bytes. -/
theorem effect_pc (c : Config) {stmt : Asm} (hw : stmt.wellFormed = true)
    (h : transfersControl stmt = false) {x : Word} {s : State} (hx : s.pc = x + 1) :
    (effect c stmt s).pc = x + BitVec.ofNat 16 stmt.byteLength := by
  unfold effect
  split <;> simp_all [rdOp8_eq, aluApply_eq, transfersControl, Asm.byteLength, Asm.wellFormed,
    PairName.isLoadable, PairName.isStackable, BitVec.add_assoc]

end Sys2Proof.Machine
end

section
/-! What the decoder's steps give (spec/30_encoding.md R55, R58): operand bytes come from the single-opcode
table only, and no table holds an illegal byte. -/

namespace Sys2Proof

theorem movInstr_length {dest source : Operand} {i : Instr} (h : movInstr dest source = some i) :
    i.length = 1 := by
  cases dest <;> cases source <;> simp only [movInstr, Option.some.injEq, reduceCtorEq] at h <;> subst h
  · next q r => cases q <;> cases r <;> rfl
  · next q => cases q <;> rfl
  · next r => cases r <;> rfl

theorem aluRegisterInstr_length (family : AluFamily) (o : Operand) :
    (aluRegisterInstr family o).length = 1 := by
  cases o with
  | reg r => cases family <;> cases r <;> rfl
  | mem => cases family <;> rfl

theorem rstInstr_asm (n : Fin 8) : (rstInstr n).asm = .rst n.val := by fin_cases n <;> rfl

theorem decodeMove_length {op : Byte} {i : Instr} (h : decodeMove op = some i) : i.length = 1 := by
  unfold decodeMove at h
  split at h
  · split at h
    · exact movInstr_length h
    · cases h
  · cases h

theorem decodeBlocks_length {op : Byte} {i : Instr} :
    ∀ {blocks : List (AluFamily × Byte)}, decodeBlocks blocks op = some i → i.length = 1 := by
  intro blocks
  induction blocks with
  | nil => intro h; cases h
  | cons block rest ih =>
    intro h
    unfold decodeBlocks at h
    split at h
    · obtain ⟨o, -, rfl⟩ := Option.map_eq_some_iff.mp h
      exact aluRegisterInstr_length block.1 o
    · exact ih h

theorem decodeRestart_length {op : Byte} {i : Instr} (h : decodeRestart op = some i) :
    i.length = 1 := by
  obtain ⟨n, -, rfl⟩ := Option.map_eq_some_iff.mp h
  rw [Instr.length, rstInstr_asm, Asm.byteLength]

/-- R55: only step 1 of the decoder gives instructions with operand bytes. -/
theorem decodeSingle_of_decodeOpcode {c : Config} {op lo hi : Byte} {i : Instr}
    (h : decodeOpcode c op lo hi = some i) (hlen : i.length ≠ 1) : decodeSingle op lo hi = some i := by
  unfold decodeOpcode at h
  split at h
  · next hs => exact hs.trans h
  split at h
  · next hm => exact absurd (decodeMove_length (hm.trans h)) hlen
  split at h
  · next hb => exact absurd (decodeBlocks_length (hb.trans h)) hlen
  · exact absurd (decodeRestart_length h) hlen

/-- R52: the operand of a decoded `JMP` is the two bytes after the opcode, the low one first. -/
theorem decodeOpcode_jmp {c : Config} {op lo hi : Byte} {a16 : Word}
    (h : decodeOpcode c op lo hi = some (.jmp a16)) : a16 = Machine.joinBytes hi lo := by
  have htable : ∀ entry ∈ singleTable, entry.2 lo hi = .jmp a16 → a16 = Machine.joinBytes hi lo := by
    simp [singleTable, eq_comm]
  have hs : decodeSingle op lo hi = some (.jmp a16) :=
    decodeSingle_of_decodeOpcode h (by simp [Instr.length, Instr.asm, Asm.byteLength])
  obtain ⟨make, hl, hmake⟩ := Option.map_eq_some_iff.mp hs
  obtain ⟨before, after, htab, -⟩ := List.lookup_eq_some_iff.mp hl
  exact htable (op, make) (by simp [htab]) hmake

/-- R58: no table or block of the decoder holds an illegal byte. -/
theorem illegalBytes_in_no_block :
    (Machine.illegalBytes.all fun op => (singleTable.lookup op).isNone && (decodeMove op).isNone &&
      (decodeBlocks (aluBlocks Machine.config) op).isNone && (decodeRestart op).isNone) = true := by
  decide

/-- R58: an illegal opcode byte is met by no step of the decoder, whatever follows. -/
theorem decodeOpcode_illegal {op : Byte} (h : op ∈ Machine.illegalBytes) (lo hi : Byte) :
    decodeOpcode Machine.config op lo hi = none := by
  have hop := List.all_eq_true.mp illegalBytes_in_no_block op h
  simp only [Bool.and_eq_true, Option.isNone_iff_eq_none] at hop
  obtain ⟨⟨⟨hs, hm⟩, hb⟩, hr⟩ := hop
  simp [decodeOpcode, decodeSingle, hs, hm, hb, hr]

/-- Bytes that decode give the instruction of their first byte, its operand from the next two. -/
theorem decodeOpcode_of_decodeWith {c : Config} {op lo hi : Byte} {i : Instr} {rest : List Byte}
    (h : decodeWith c [op, lo, hi] = some (i, rest)) : decodeOpcode c op lo hi = some i := by
  simp only [decodeWith, List.getD_cons_zero, List.getD_cons_succ] at h
  split at h
  · cases h
  · next j hj =>
    split at h
    · cases h; exact hj
    · cases h

end Sys2Proof
end

section
/-! The phases of a step: what the `Exec` phase answers, the invariant of every step, and steps with no reset
scheduled. -/

namespace Sys2Proof.Machine

/-! ## The end of the Exec phase -/

/-- R74, R76: the `Service` phase comes next, or a latched fault has ended the step. -/
theorem endExec_cases (s : State) :
    (s.fault = none ∧ endExec s = { s with phase := .service }) ∨
      (s.fault ≠ none ∧ endExec s = s) := by
  cases h : s.fault <;> simp [endExec, h]

@[simp] theorem endExec_pc (s : State) : (endExec s).pc = s.pc := by
  obtain ⟨-, e⟩ | ⟨-, e⟩ := endExec_cases s <;> rw [e]
@[simp] theorem endExec_fault (s : State) : (endExec s).fault = s.fault := by
  obtain ⟨-, e⟩ | ⟨-, e⟩ := endExec_cases s <;> rw [e]
@[simp] theorem endExec_mem (s : State) : (endExec s).mem = s.mem := by
  obtain ⟨-, e⟩ | ⟨-, e⟩ := endExec_cases s <;> rw [e]
@[simp] theorem memByte_endExec (x : Word) (s : State) : memByte (endExec s) x = memByte s x := by
  simp [memByte]

/-- R71: the two ways an `Exec` phase answers: the raise of `InvalidOpcode`, or the effect of the instruction
decoded. -/
theorem execPhase_next_cases {c : Config} {s t : State} (h : execPhase c s = .next t) :
    (decodeWith c (instrBytes s) = none ∧
        t = raise (.invalidOpcode (memByte s s.pc) s.pc) (afterOpcodeFetch s)) ∨
      ∃ i rest, decodeWith c (instrBytes s) = some (i, rest) ∧
        t = endExec (effect c i.asm (afterOpcodeFetch s)) := by
  obtain ⟨hd, e⟩ | ⟨i, rest, hd, e⟩ := execPhase_cases c s
  · exact .inl ⟨hd, by simpa using h.symm.trans e⟩
  · rw [execWith_effect, andThen_next] at e
    exact .inr ⟨i, rest, hd, by simpa using h.symm.trans e⟩

/-! ## The step invariant -/

/-- What holds at the boundary between the phases of a step: memory is canonical, and a `Service` phase is
to come only with no fault latched (R76). -/
def MidStepInv (s : State) : Prop :=
  Memory.wf s.mem = true ∧ (s.phase = .service → s.fault = none)

theorem applyEvent_wf {c : Config} {ev : Event} {s t : State} (h : applyEvent c ev s = .next t)
    (hs : Memory.wf s.mem = true) : Memory.wf t.mem = true := by
  obtain ⟨line, token, -, rfl⟩ | ⟨-, rfl⟩ | ⟨-, rfl⟩ := applyEvent_cases h
  · rwa [request_mem]
  · exact restart_wf hs c.trapVector
  · exact resetEvent_wf hs c

/-- R200: an event is a reset, after which the `Exec` phase comes, or it keeps the phase and the fault. -/
theorem applyEvent_phase {c : Config} {ev : Event} {s t : State} (h : applyEvent c ev s = .next t) :
    t.phase = .exec ∨ (t.phase = s.phase ∧ t.fault = s.fault) := by
  obtain ⟨line, token, -, rfl⟩ | ⟨-, rfl⟩ | ⟨-, rfl⟩ := applyEvent_cases h
  · exact .inr ⟨request_phase .., request_fault ..⟩
  · exact .inr ⟨rfl, rfl⟩
  · exact .inl rfl

theorem boundary_keeps_stepInv {c : Config} {s t : State} (hs : StepInv s)
    (h : boundary c s = .next t) : StepInv t := by
  refine boundary_keeps (P := StepInv) (fun _ _ hu => hu) (fun ev u v hu hv => ?_) hs h
  obtain ⟨hm, hp⟩ := hu
  obtain hp' | ⟨hp', -⟩ := applyEvent_phase hv
  · exact ⟨applyEvent_wf hv hm, hp'⟩
  · exact ⟨applyEvent_wf hv hm, hp'.trans hp⟩

theorem boundary_keeps_midStepInv {c : Config} {s t : State} (hs : MidStepInv s)
    (h : boundary c s = .next t) : MidStepInv t := by
  refine boundary_keeps (P := MidStepInv) (fun _ _ hu => hu) (fun ev u v hu hv => ?_) hs h
  obtain ⟨hm, hf⟩ := hu
  refine ⟨applyEvent_wf hv hm, fun hserv => ?_⟩
  obtain hp | ⟨hp, hfault⟩ := applyEvent_phase hv
  · rw [hp] at hserv; cases hserv
  · exact hfault.trans (hf (hp.symm.trans hserv))

theorem servicePhase_stepInv {s : State} (h : Memory.wf s.mem = true) (c : Config) :
    StepInv (servicePhase c s) := ⟨service_wf h c, rfl⟩

theorem execPhase_midStepInv {c : Config} {s t : State} (hs : StepInv s)
    (h : execPhase c s = .next t) : MidStepInv t := by
  obtain ⟨hm, hp⟩ := hs
  obtain ⟨-, rfl⟩ | ⟨i, -, -, rfl⟩ := execPhase_next_cases h
  · refine ⟨hm, fun hserv => ?_⟩
    rw [raise_phase] at hserv
    cases hp.symm.trans hserv
  · refine ⟨by rw [endExec_mem]; exact effect_mem_wf c i.asm hm, fun hserv => ?_⟩
    obtain ⟨hf, -⟩ | ⟨-, e⟩ := endExec_cases (effect c i.asm (afterOpcodeFetch s))
    · rwa [endExec_fault]
    · obtain ⟨-, -, -, hphase, -⟩ := effect_keepsSequencer c i.asm (afterOpcodeFetch s)
      rw [e, hphase] at hserv
      cases hp.symm.trans hserv

theorem finishStep_stepInv {c : Config} {s t : State} (hs : MidStepInv s)
    (h : finishStep c s = .next t) : StepInv t := by
  obtain ⟨u, hu, hend⟩ := finishStep_cases h
  obtain ⟨hm, hf⟩ := boundary_keeps_midStepInv hs hu
  obtain ⟨hstop, rfl⟩ | ⟨-, -, ht⟩ := hend
  · refine ⟨hm, ?_⟩
    cases hp : t.phase with
    | exec => rfl
    | service => exact absurd ⟨hp, hf hp⟩ hstop
  · exact boundary_keeps_stepInv (servicePhase_stepInv hm c) ht

theorem stepWith_keeps_stepInv {c : Config} {s t : State} (hs : StepInv s)
    (h : stepWith c s = .next t) : StepInv t := by
  obtain ⟨-, -, hb⟩ | ⟨-, -, hb⟩ | ⟨-, -, u, hu, ht⟩ := stepWith_next_cases h
  · exact boundary_keeps_stepInv hs hb
  · exact boundary_keeps_stepInv (servicePhase_stepInv hs.1 c) hb
  · exact finishStep_stepInv (execPhase_midStepInv hs hu) ht

/-- Settles O57: the `Exec` phase reaches the weaker invariant of the middle of a step, and the rest of the
step restores the full one. -/
theorem stepKeepsTheInvariant : Obligations.StepKeepsTheInvariant :=
  ⟨fun _ _ hs h => stepWith_keeps_stepInv (c := config) hs h,
    fun _ _ _ hs h => stepWith_keeps_stepInv hs h⟩

/-! ## Steps with no reset scheduled -/

/-- What every request and trap keeps, the events of a boundary with no reset among them keep. -/
theorem applyEvents_keeps_of_no_reset {c : Config} {P : State → Prop}
    (hreq : ∀ line token s, P s → P (request line token s)) (htrap : ∀ s, P s → P (trap c s)) :
    ∀ (evs : List Event) {s t : State}, Event.reset ∉ evs → P s → applyEvents c evs s = .next t →
      P t := by
  intro evs
  induction evs with
  | nil => intro s t _ hs h; simp only [applyEvents, Host.Outcome.next.injEq] at h; exact h ▸ hs
  | cons ev evs ih =>
    intro s t hno hs h
    obtain ⟨hev, hrest⟩ := not_or.mp (mt List.mem_cons.mpr hno)
    obtain ⟨u, hu, ht⟩ := andThen_eq_next.mp h
    obtain ⟨line, token, -, rfl⟩ | ⟨-, rfl⟩ | ⟨rfl, -⟩ := applyEvent_cases hu
    · exact ih hrest (hreq line token s hs) ht
    · exact ih hrest (htrap s hs) ht
    · exact absurd rfl hev

theorem boundary_keeps_of_no_reset {c : Config} {P : State → Prop}
    (hS : ∀ s evs, P s → P { s with schedule := evs })
    (hreq : ∀ line token s, P s → P (request line token s)) (htrap : ∀ s, P s → P (trap c s))
    {s t : State} (hno : ∀ evs ∈ s.schedule, Event.reset ∉ evs) (hs : P s)
    (h : boundary c s = .next t) : P t := by
  unfold boundary at h
  cases hq : s.schedule with
  | nil => simp only [hq, Host.Outcome.next.injEq] at h; exact h ▸ hs
  | cons evs rest =>
    simp only [hq] at h
    exact applyEvents_keeps_of_no_reset hreq htrap evs (hno evs (by simp [hq])) (hS s rest hs) h

theorem boundary_fault_of_no_reset {c : Config} {s t : State}
    (hno : ∀ evs ∈ s.schedule, Event.reset ∉ evs) (h : boundary c s = .next t) :
    t.fault = s.fault :=
  boundary_keeps_of_no_reset (P := fun u => u.fault = s.fault) (fun _ _ hu => hu)
    (fun _ _ _ hu => (request_fault ..).trans hu) (fun _ hu => hu) hno rfl h

theorem boundary_run_of_no_reset {c : Config} {s t : State}
    (hno : ∀ evs ∈ s.schedule, Event.reset ∉ evs) (h : boundary c s = .next t) :
    t.run = s.run :=
  boundary_keeps_of_no_reset (P := fun u => u.run = s.run) (fun _ _ hu => hu)
    (fun _ _ _ hu => (request_run ..).trans hu) (fun _ hu => hu) hno rfl h

theorem fault_eq_none_of_sequencerRuns {s : State} (h : sequencerRuns s = true) : s.fault = none := by
  cases hf : s.fault with
  | none => rfl
  | some r => simp [sequencerRuns, hf] at h

theorem run_of_sequencerRuns {s : State} (h : sequencerRuns s = true) (hp : s.phase = .exec) :
    s.run = true := by
  simpa [sequencerRuns, fault_eq_none_of_sequencerRuns h, hp] using h

/-- Settles O47: a faulted machine takes no phase, so a step is one boundary. -/
theorem faultStaysUntilReset : Obligations.FaultStaysUntilReset := by
  intro s t h hf hno
  obtain ⟨-, -, hb⟩ | ⟨hruns, -⟩ | ⟨hruns, -⟩ := stepWith_next_cases (c := config) h
  · exact boundary_fault_of_no_reset hno hb
  · exact absurd (fault_eq_none_of_sequencerRuns hruns) hf
  · exact absurd (fault_eq_none_of_sequencerRuns hruns) hf

/-- Settles O48: with `RUN = 0` a step is one boundary, after the `Service` phase where that is still due. -/
theorem runIsSetOnlyByReset : Obligations.RunIsSetOnlyByReset := by
  intro s t h hr hno
  obtain ⟨-, -, hb⟩ | ⟨-, -, hb⟩ | ⟨hruns, hp, -⟩ := stepWith_next_cases (c := config) h
  · exact (boundary_run_of_no_reset hno hb).trans hr
  · have hsched : (servicePhase config s).schedule = s.schedule := service_schedule config s
    have hrun : (servicePhase config s).run = s.run := service_run config s
    exact (boundary_run_of_no_reset (by rwa [hsched]) hb).trans (hrun.trans hr)
  · exact absurd (run_of_sequencerRuns hruns hp) (by simp [hr])

end Sys2Proof.Machine
end

section
/-! Where the `Exec` phase leaves `PC` (spec/10_state.md R14). -/

namespace Sys2Proof.Machine

/-- R140, R97: the return address that a vector call leaves on the stack. -/
theorem restart_pushes_pc (v : Word) (s : State) :
    memByte (restart v s) (s.sp - 1) = hiByte s.pc ∧ memByte (restart v s) (s.sp - 2) = loByte s.pc := by
  have hsp : s.sp - 2 = s.sp - 1#16 - 1#16 := by bv_omega
  exact ⟨memByte_push16_high s.pc s, by rw [hsp]; exact memByte_push16_low s.pc s⟩

/-- R14, R143: `RST n` leaves `PC` at its vector, the address after its one byte on the stack. -/
theorem effect_rst (n : Fin 8) (s : State) :
    effect config (rstInstr n).asm s = restart (BitVec.ofNat 16 (8 * n.val)) s := by
  rw [rstInstr_asm, BitVec.ofNat_mul, BitVec.mul_comm]
  rfl

/-- Settles O9: the frame of `PC` for the straight-line instructions, one fact each for the transfers, and
the raise for an illegal byte. -/
theorem execPhaseProgramCounter : Obligations.ExecPhaseProgramCounter := by
  intro s t h
  obtain ⟨hnone, rfl⟩ | ⟨i, rest, hsome, rfl⟩ := execPhase_next_cases h
  · refine ⟨fun j rest' hj => ?_, fun _ => ⟨rfl, rfl⟩⟩
    cases hnone.symm.trans hj
  · have hop := decodeOpcode_of_decodeWith hsome
    refine ⟨fun j rest' hj => ?_, fun hill => ?_⟩
    · obtain ⟨rfl, -⟩ := Prod.mk.inj (Option.some.inj (hsome.symm.trans hj))
      refine ⟨fun hstraight => ?_, ?_, ?_, ?_⟩
      · rw [endExec_pc]
        exact effect_pc config (instr_wellFormed i) hstraight (x := s.pc) rfl
      · rintro a16 rfl
        rw [endExec_pc, ← decodeOpcode_jmp hop]
        exact (BitVec.ofNat_toNat 16 a16).trans (BitVec.setWidth_eq a16)
      · rintro rfl
        exact endExec_pc _
      · rintro n rfl
        obtain ⟨hhi, hlo⟩ := restart_pushes_pc (BitVec.ofNat 16 (8 * n.val)) (afterOpcodeFetch s)
        simp only [effect_rst, endExec_pc, memByte_endExec]
        exact ⟨rfl, hhi, hlo⟩
    · cases (decodeOpcode_illegal hill _ _).symm.trans hop

end Sys2Proof.Machine
end

section
/-! What the instructions write and read of the state, for all instructions at once. -/

namespace Sys2Proof.Machine

/-! ## What an instruction may write -/

/-- An instruction is the one its spelling names. -/
theorem asm_instr (i : Instr) : i.asm.instr = some i := by
  cases i <;> simp [Instr.asm, Asm.instr, mviInstr, mviRegisterInstr, lxiInstr, movInstr,
    movRegisterInstr, movFromMemoryInstr, movToMemoryInstr, stackPair, pushInstr, popInstr,
    aluRegisterInstr, aluImmediateInstr, rstInstr]

theorem asm_injective : Function.Injective Instr.asm := fun i j h =>
  Option.some.inj ((asm_instr i).symm.trans ((congrArg Asm.instr h).trans (asm_instr j)))

/-- Settles O51: the frames of the registers and of `F`. -/
theorem onlyListedInstructionsWriteRegisters : Obligations.OnlyListedInstructionsWriteRegisters := by
  intro i s t h
  obtain rfl : effect config i.asm s = t := by simpa [exec_effect] using h
  exact ⟨fun r hr => effect_getReg config hr s, fun hf => effect_f config hf s⟩

/-- Settles O52: one frame of `effect` for each register; different instructions have different spellings. -/
theorem onlyListedInstructionsWriteControlState :
    Obligations.OnlyListedInstructionsWriteControlState := by
  intro i s t h
  obtain rfl : effect config i.asm s = t := by simpa [exec_effect] using h
  refine ⟨fun hsp => effect_sp config hsp s, fun hei hdi => effect_ie config ?_ ?_ s,
    fun hsim => effect_mask config ?_ s, fun hhlt => effect_run config ?_ s,
    fun hm x => ?_, effect_keepsSequencer config i.asm s⟩
  · exact asm_injective.ne (a₂ := .ei) hei
  · exact asm_injective.ne (a₂ := .di) hdi
  · exact asm_injective.ne (a₂ := .sim) hsim
  · exact asm_injective.ne (a₂ := .hlt) hhlt
  · rw [memByte, effect_mem config hm, memByte]

/-! ## What an instruction does not read -/

/-- The state with other values in `IE`, `MASK` and `PENDING`. -/
def withInterruptState (ie : Bool) (mask : BitVec 3) (pending : Option Pending) (s : State) : State :=
  { s with ie := ie, mask := mask, pending := pending }

theorem wrOp8_withInterruptState (o : Operand) (v : Byte) (ie : Bool) (mask : BitVec 3)
    (pending : Option Pending) (s : State) :
    wrOp8 o v (withInterruptState ie mask pending s) =
      withInterruptState ie mask pending (wrOp8 o v s) := by
  cases o with
  | reg r => cases r <;> rfl
  | mem => rfl

/-- With other values in the interrupt state an instruction does the same but to that state, and it leaves
`PENDING`. -/
theorem effect_withInterruptState (c : Config) (stmt : Asm) (ie : Bool) (mask : BitVec 3)
    (pending : Option Pending) (s : State) :
    ∃ ie' mask', effect c stmt (withInterruptState ie mask pending s) =
      withInterruptState ie' mask' pending (effect c stmt s) := by
  cases stmt with
  | ei => exact ⟨true, mask, rfl⟩
  | di => exact ⟨false, mask, rfl⟩
  | sim => exact ⟨ie, if s.a.getLsbD 3 then s.a.extractLsb' 0 3 else mask, rfl⟩
  | nop | hlt | jmp _ | ret | rst _ | outPort _ | aluImmediate _ _ | inPort _ => exact ⟨ie, mask, rfl⟩
  | lxi pair _ | push pair | pop pair => exact ⟨ie, mask, by cases pair <;> rfl⟩
  | alu _ source => exact ⟨ie, mask, by cases source <;> rfl⟩
  | mvi dest _ => exact ⟨ie, mask, wrOp8_withInterruptState dest _ ie mask pending (fetched s)⟩
  | mov dest source =>
    cases dest with
    | reg q =>
      refine ⟨ie, mask, Eq.trans ?_ (wrOp8_withInterruptState (.reg q) _ ie mask pending _)⟩
      cases source <;> rfl
    | mem => exact ⟨ie, mask, by cases source <;> rfl⟩

/-- Settles O53: the two runs differ in the interrupt state only. -/
theorem noInstructionReadsInterruptState : Obligations.NoInstructionReadsInterruptState := by
  intro i s t ie mask pending h
  obtain rfl : effect config i.asm s = t := by simpa [exec_effect] using h
  obtain ⟨ie', mask', e⟩ := effect_withInterruptState config i.asm ie mask pending s
  refine ⟨_, (exec_effect i _).trans (congrArg _ e), fun r => ?_,
    rfl, rfl, rfl, rfl, rfl, rfl, rfl⟩
  cases r <;> rfl

end Sys2Proof.Machine
end

section
/-! Storage, the interrupt-enable flag and reset. -/

namespace Sys2Proof.Machine

/-- Settles O21. -/
theorem storageReadsBackWhatWasWritten : Obligations.StorageReadsBackWhatWasWritten := by
  refine ⟨fun o v s => ⟨?_, ?_⟩, fun x v s => ⟨?_, ?_, ?_, ?_⟩⟩
  · cases o with
    | reg r => exact getReg_setReg_same r v s
    | mem => exact memByte_memWrite_same (hlAddr s) v s
  · rintro rfl
    exact ⟨fun r _ => getReg_memWrite r _ v s, memByte_memWrite_same _ v s, rfl⟩
  · exact memByte_memWrite_same x v s
  · exact fun y hy => memByte_memWrite_other (by simpa using hy) v s
  · exact fun y => memByte_memRead y x s
  · exact fun r _ => getReg_memRead r x s

/-- Everything but `IE` is as it was when `IE` is written. -/
theorem frame_of_ie_write (b : Bool) (s : State) :
    let t := { s with ie := b }
    t.ie = b ∧ t.pc = s.pc ∧ t.sp = s.sp ∧ t.f = s.f ∧ KeepsRegsBut [] s t ∧ KeepsMemory s t ∧
      t.mask = s.mask ∧ t.run = s.run ∧ KeepsSequencer s t ∧ KeepsIo s t ∧ Transacts [] s t := by
  refine ⟨rfl, rfl, rfl, rfl, fun r _ => ?_, fun _ => rfl, rfl, rfl, ⟨rfl, rfl, rfl, rfl, rfl⟩,
    ⟨rfl, rfl⟩, rfl⟩
  cases r <;> rfl

/-- Settles O37: either meaning is one write of `IE`. -/
theorem eiAndDiWriteOnlyIe : Obligations.EiAndDiWriteOnlyIe :=
  ⟨rfl, rfl, fun s =>
    ⟨⟨_, rfl, frame_of_ie_write true s⟩, ⟨_, rfl, frame_of_ie_write false s⟩⟩⟩

/-- Settles O54: the fields are those written; memory is that of one bus write. -/
theorem resetWritesItsValues : Obligations.ResetWritesItsValues := by
  intro c s
  refine ⟨resetEvent c s, rfl, rfl, rfl, rfl, rfl, rfl, rfl, rfl, rfl, rfl, rfl, rfl, rfl, rfl, rfl,
    rfl, rfl, ?_, ?_, rfl, rfl⟩
  · exact memByte_memWrite_same c.haltSeedAddr c.haltOpcode _
  · exact fun x hx => memByte_memWrite_other (by simpa using hx) c.haltOpcode _

/-- R26: memory right after reset is the launch memory but for the seeded byte. -/
theorem memByte_resetWith (c : Config) (x : Word) :
    memByte (State.resetWith c) x =
      if c.haltSeedAddr = x then c.haltOpcode else Config.launchByte x.toNat := by
  split
  · next h => subst h; exact memory_get_put_same [] _ _
  · next h => exact memory_get_put_other [] c.haltOpcode (word_toNat_ne (Ne.symm h))

theorem memByte_resetWith_seed (c : Config) :
    memByte (State.resetWith c) c.haltSeedAddr = c.haltOpcode := by
  rw [memByte_resetWith, if_pos rfl]

/-- Settles O55. -/
theorem resetStateValues : Obligations.ResetStateValues :=
  ⟨rfl, rfl, rfl, rfl, rfl, rfl, memByte_resetWith_seed config, rfl, fun c =>
    ⟨rfl, rfl, rfl, rfl, rfl, rfl, rfl, rfl, rfl, rfl, rfl, rfl, rfl, rfl, rfl, rfl,
      memByte_resetWith_seed c⟩⟩

theorem resetWith_stepInv (c : Config) : StepInv (State.resetWith c) := ⟨resetWith_mem_wf c, rfl⟩

/-- R40: the one write of the history is the seed, and every other byte is the launch memory's. -/
theorem resetWith_busCoherent (c : Config) :
    BusCoherent (fun x => Config.launchByte x.toNat) (State.resetWith c) :=
  ⟨memByte_resetWith c, trivial⟩

/-- Settles O58. -/
theorem resetMeetsTheInvariants : Obligations.ResetMeetsTheInvariants :=
  ⟨⟨resetWith_stepInv config, resetWith_busCoherent config⟩,
    fun c => ⟨resetWith_stepInv c, resetWith_busCoherent c⟩⟩

end Sys2Proof.Machine
end

section
/-! Every step as a run of bus transactions (spec/20_memory.md R40, R45): what one transaction does to memory
and to the history is said once, and the statements about the bus follow from it. -/

namespace Sys2Proof.Machine

/-! ## Runs of the bus -/

/-- R31, R32, R40, R45: from `s` to `t` the Control Unit makes at most one bus transaction, with its effect on
memory. The registers and all else may change in any way. -/
inductive BusStep (s t : State) : Prop where
  | quiet (hmem : t.mem = s.mem) (hhist : t.history = s.history)
  | memRead (x : Word) (hmem : t.mem = s.mem) (hhist : t.history = .memRead x (memByte s x) :: s.history)
  | memWrite (x : Word) (v : Byte) (hmem : t.mem = Memory.put s.mem x.toNat v)
      (hhist : t.history = .memWrite x v :: s.history)
  | ioRead (p v : Byte) (hmem : t.mem = s.mem) (hhist : t.history = .ioRead p v :: s.history)
  | ioWrite (p v : Byte) (hmem : t.mem = s.mem) (hhist : t.history = .ioWrite p v :: s.history)
  | intAck (k : Token) (hmem : t.mem = s.mem) (hhist : t.history = .intAck k :: s.history)

/-- From `s` to `t` memory and the history change by bus transactions only. -/
abbrev BusRun : State → State → Prop := Relation.ReflTransGen BusStep

theorem BusRun.quiet {s t : State} (hmem : t.mem = s.mem) (hhist : t.history = s.history) :
    BusRun s t := .single (.quiet hmem hhist)

/-! ## Each operation is a run of the bus -/

theorem busRun_fetched (s : State) : BusRun s (fetched s) := .single (.memRead s.pc rfl rfl)

theorem busRun_afterOpcodeFetch (s : State) : BusRun s (afterOpcodeFetch s) :=
  .single (.memRead s.pc rfl rfl)

theorem busRun_setReg (r : Reg) (v : Byte) (s : State) : BusRun s (setReg r v s) :=
  .quiet (setReg_mem r v s) (setReg_history r v s)

theorem busRun_rdOp8 (o : Operand) (s : State) : BusRun s (rdOp8 o s).2 := by
  cases o with
  | reg r => exact .refl
  | mem => exact .single (.memRead (hlAddr s) rfl rfl)

theorem busRun_wrOp8 (o : Operand) (v : Byte) (s : State) : BusRun s (wrOp8 o v s) := by
  cases o with
  | reg r => exact busRun_setReg r v s
  | mem => exact .single (.memWrite (hlAddr s) v rfl rfl)

theorem busRun_push16 (w : Word) (s : State) : BusRun s (push16 w s) :=
  .tail (b := memWrite (s.sp - 1) (hiByte w) s) (.single (.memWrite (s.sp - 1) (hiByte w) rfl rfl))
    (.memWrite (s.sp - 1 - 1) (loByte w) rfl rfl)

theorem busRun_pop16 (s : State) : BusRun s (pop16 s).2 :=
  .tail (b := (memRead s.sp s).2) (.single (.memRead s.sp rfl rfl)) (.memRead (s.sp + 1) rfl rfl)

theorem busRun_restart (v : Word) (s : State) : BusRun s (restart v s) :=
  (busRun_push16 s.pc s).tail (.quiet rfl rfl)

theorem busRun_emitIntAck (k : Option Token) (s : State) : BusRun s (emitIntAck k s) := by
  cases k with
  | none => exact .refl
  | some k => exact .single (.intAck k rfl rfl)

theorem busRun_service (c : Config) (s : State) : BusRun s (service c s) := by
  obtain ⟨-, e⟩ | ⟨p, -, -, e⟩ := service_cases c s
  · rw [e]
  · have hoff : BusRun s { s with ie := false } := .quiet rfl rfl
    have hack := hoff.trans (busRun_emitIntAck p.token _)
    rw [e]
    exact (hack.trans (busRun_restart (interruptVector c p.line) _)).tail (.quiet rfl rfl)

theorem busRun_servicePhase (c : Config) (s : State) : BusRun s (servicePhase c s) :=
  (busRun_service c s).tail (.quiet rfl rfl)

theorem busRun_endExec (s : State) : BusRun s (endExec s) := by
  obtain ⟨-, e⟩ | ⟨-, e⟩ := endExec_cases s <;> rw [e]
  exact .quiet rfl rfl

/-- R45: the transactions of every instruction, in the order of its rule. -/
theorem busRun_effect (c : Config) (stmt : Asm) (s : State) : BusRun s (effect c stmt s) := by
  have hword : BusRun s (fetched (fetched s)) := (busRun_fetched s).trans (busRun_fetched _)
  cases stmt with
  | nop => exact .refl
  | hlt | ei | di | sim => exact .quiet rfl rfl
  | mvi dest _ => exact (busRun_fetched s).trans (busRun_wrOp8 dest _ _)
  | lxi pair _ =>
    cases pair with
    | b | d | h | sp => exact hword.tail (.quiet rfl rfl)
    | psw => exact .refl
  | mov dest source =>
    cases dest with
    | reg q => exact (busRun_rdOp8 source s).trans (busRun_wrOp8 (.reg q) _ _)
    | mem =>
      cases source with
      | reg r => exact busRun_wrOp8 .mem _ s
      | mem => exact .refl
  | push pair =>
    cases pair with
    | b | d | h | psw => exact busRun_push16 _ s
    | sp => exact .refl
  | pop pair =>
    cases pair with
    | b | d | h | psw => exact (busRun_pop16 s).tail (.quiet rfl rfl)
    | sp => exact .refl
  | alu _ source => exact (busRun_rdOp8 source s).tail (.quiet rfl rfl)
  | aluImmediate _ _ => exact (busRun_fetched s).tail (.quiet rfl rfl)
  | jmp _ => exact hword.tail (.quiet rfl rfl)
  | ret => exact (busRun_pop16 s).tail (.quiet rfl rfl)
  | rst _ => exact busRun_restart _ s
  | inPort p8 => exact (busRun_fetched s).tail (.ioRead (BitVec.ofNat 8 p8) _ rfl rfl)
  | outPort p8 => exact (busRun_fetched s).tail (.ioWrite (BitVec.ofNat 8 p8) s.a rfl rfl)

theorem busRun_applyEvent {c : Config} {ev : Event} {s t : State} (h : applyEvent c ev s = .next t) :
    BusRun s t := by
  obtain ⟨line, token, -, rfl⟩ | ⟨-, rfl⟩ | ⟨-, rfl⟩ := applyEvent_cases h
  · exact .quiet (request_mem ..) (request_history ..)
  · exact busRun_restart c.trapVector s
  · exact .single (.memWrite c.haltSeedAddr c.haltOpcode rfl rfl)

theorem busRun_boundary {c : Config} {s t : State} (h : boundary c s = .next t) : BusRun s t :=
  boundary_keeps (P := BusRun s) (fun _ _ hu => hu.tail (.quiet rfl rfl))
    (fun _ _ _ hu hev => hu.trans (busRun_applyEvent hev)) .refl h

theorem busRun_execPhase {c : Config} {s t : State} (h : execPhase c s = .next t) : BusRun s t := by
  obtain ⟨-, rfl⟩ | ⟨i, -, -, rfl⟩ := execPhase_next_cases h
  · exact (busRun_afterOpcodeFetch s).tail (.quiet rfl rfl)
  · exact ((busRun_afterOpcodeFetch s).trans (busRun_effect c i.asm _)).trans (busRun_endExec _)

theorem busRun_finishStep {c : Config} {s t : State} (h : finishStep c s = .next t) : BusRun s t := by
  obtain ⟨u, hu, ⟨-, rfl⟩ | ⟨-, -, ht⟩⟩ := finishStep_cases h
  · exact busRun_boundary hu
  · exact ((busRun_boundary hu).trans (busRun_servicePhase c u)).trans (busRun_boundary ht)

/-- R40: a step touches memory and the history through bus transactions only, whatever events are scheduled. -/
theorem busRun_stepWith {c : Config} {s t : State} (h : stepWith c s = .next t) : BusRun s t := by
  obtain ⟨-, -, hb⟩ | ⟨-, -, hb⟩ | ⟨-, -, u, hu, ht⟩ := stepWith_next_cases h
  · exact busRun_boundary hb
  · exact (busRun_servicePhase c s).trans (busRun_boundary hb)
  · exact (busRun_execPhase hu).trans (busRun_finishStep ht)

/-! ## What a run of the bus keeps -/

theorem memByte_congr {s t : State} (h : t.mem = s.mem) (x : Word) : memByte t x = memByte s x := by
  rw [memByte, h, memByte]

/-- R31: what every byte reads as after one write. -/
theorem memByte_of_mem_put {s t : State} {x : Word} {v : Byte} (h : t.mem = Memory.put s.mem x.toNat v)
    (y : Word) : memByte t y = if x = y then v else memByte s y := by
  rw [memByte_congr (s := memWrite x v s) h]
  split
  · next hy => rw [← hy, memByte_memWrite_same]
  · next hy => exact memByte_memWrite_other (Ne.symm hy) v s

/-- R40: a read gives what memory holds, which is the latest write; a write becomes the latest one of its
address; the other transactions are no writes. -/
theorem BusStep.keeps_busCoherent {launch : Word → Byte} {s t : State} (h : BusStep s t)
    (hs : BusCoherent launch s) : BusCoherent launch t := by
  obtain ⟨hbytes, hreads⟩ := hs
  cases h with
  | quiet hmem hhist =>
    rw [BusCoherent, hhist]
    exact ⟨fun y => (memByte_congr hmem y).trans (hbytes y), hreads⟩
  | memRead x hmem hhist =>
    rw [BusCoherent, hhist]
    exact ⟨fun y => (memByte_congr hmem y).trans (hbytes y), hbytes x, hreads⟩
  | memWrite x v hmem hhist =>
    rw [BusCoherent, hhist]
    refine ⟨fun y => ?_, hreads⟩
    rw [memByte_of_mem_put hmem, hbytes, latestWrite]
  | ioRead _ _ hmem hhist | ioWrite _ _ hmem hhist | intAck _ hmem hhist =>
    rw [BusCoherent, hhist]
    exact ⟨fun y => (memByte_congr hmem y).trans (hbytes y), hreads⟩

theorem BusRun.keeps_busCoherent {launch : Word → Byte} {s t : State} (h : BusRun s t)
    (hs : BusCoherent launch s) : BusCoherent launch t := by
  induction h with
  | refl => exact hs
  | tail _ hstep ih => exact hstep.keeps_busCoherent ih

theorem BusStep.history_suffix {s t : State} (h : BusStep s t) : s.history <:+ t.history := by
  cases h with
  | quiet _ hhist => rw [hhist]
  | memRead _ _ hhist | memWrite _ _ _ hhist | ioRead _ _ _ hhist | ioWrite _ _ _ hhist
  | intAck _ _ hhist => rw [hhist]; exact List.suffix_cons _ _

theorem BusRun.history_suffix {s t : State} (h : BusRun s t) : s.history <:+ t.history := by
  induction h with
  | refl => exact List.suffix_rfl
  | tail _ hstep ih => exact ih.trans hstep.history_suffix

/-- Settles O59: a step is a run of bus transactions, each of which keeps the bus coherent. -/
theorem stepKeepsTheBusCoherent : Obligations.StepKeepsTheBusCoherent :=
  ⟨fun _ _ _ hs h => (busRun_stepWith (c := config) h).keeps_busCoherent hs,
    fun _ _ _ _ hs h => (busRun_stepWith h).keeps_busCoherent hs⟩

/-- Settles O60: a step is a run of bus transactions, each of which is put in front of the history. -/
theorem historyOnlyGrows : Obligations.HistoryOnlyGrows := by
  intro s t h
  obtain ⟨new, hnew⟩ := (busRun_stepWith (c := config) h).history_suffix
  exact ⟨new, hnew.symm⟩

end Sys2Proof.Machine
end

section
/-! The port instructions `IN` and `OUT` (spec/44_io_and_interrupt_control.md R155, R156). -/

namespace Sys2Proof.Machine

/-- R32: a placed answer is the next one, and no free value is drawn. -/
theorem ioRead_of_placed (p8 : Byte) {s : State} {v : Byte} {more : List Byte}
    (h : s.ioAnswers = v :: more) :
    (ioRead p8 s).1 = v ∧ (ioRead p8 s).2.ioAnswers = more ∧ (ioRead p8 s).2.ioDraws = s.ioDraws := by
  simp [ioAnswer, h]

/-- R32, U4: with no answer placed the next free value is drawn. -/
theorem ioRead_of_none_placed (p8 : Byte) {s : State} (h : s.ioAnswers = []) :
    (ioRead p8 s).1 = Config.ioDraw s.ioDraws p8 ∧ (ioRead p8 s).2.ioAnswers = [] ∧
      (ioRead p8 s).2.ioDraws = s.ioDraws + 1 := by
  simp [ioAnswer, h]

/-- R155: everything `IN p8` does, as one state. -/
theorem exec_inPort (p8 : Byte) (s : State) :
    exec (.inPort p8) s =
      .next (setReg .a (ioRead p8 (fetched s)).1 (ioRead p8 (fetched s)).2) :=
  operandByte_eq s _

/-- R156: everything `OUT p8` does, as one state. -/
theorem exec_outPort (p8 : Byte) (s : State) :
    exec (.outPort p8) s = .next (ioWrite p8 s.a (fetched s)) :=
  operandByte_eq s _

theorem outputTrace_fetched (s : State) : outputTrace (fetched s) = outputTrace s := rfl

/-- R32: a port write is the newest output event. -/
theorem outputTrace_ioWrite (p v : Byte) (s : State) :
    outputTrace (ioWrite p v s) = outputTrace s ++ [.ioWrite p v] := by
  rw [outputTrace, ioWrite_history, List.filter_cons_of_pos rfl, List.reverse_cons, ← outputTrace]

/-- Settles O35: `A` is the oracle's answer after the operand fetch, which leaves the oracle alone. -/
theorem inReadsThePort : Obligations.InReadsThePort := by
  intro p8 s
  refine ⟨rfl, _, exec_inPort p8 s, fun v more h => ioRead_of_placed p8 (s := fetched s) h,
    fun h => ioRead_of_none_placed p8 (s := fetched s) h, rfl, rfl, rfl, fun r hr => ?_,
    fun _ => rfl, rfl, rfl, rfl, ⟨rfl, rfl, rfl, rfl, rfl⟩, rfl⟩
  have hra : r ≠ .a := by simpa using hr
  rw [getReg_setReg_other hra, getReg_ioRead, getReg_fetched]

/-- Settles O36: the state after the operand fetch with one output event recorded. -/
theorem outWritesThePort : Obligations.OutWritesThePort := by
  intro p8 s
  refine ⟨rfl, _, exec_outPort p8 s, rfl, rfl, rfl, fun r _ => ?_, fun _ => rfl,
    ⟨rfl, rfl, rfl, ⟨rfl, rfl, rfl, rfl, rfl⟩, rfl, rfl⟩, rfl, ?_⟩
  · rw [getReg_ioWrite, getReg_fetched]
  · rw [outputTrace_ioWrite, outputTrace_fetched]

end Sys2Proof.Machine
end

section
/-! The operand codes and the register blocks of the opcode map (spec/30_encoding.md R12, R56, R57): where the
decoder finds an operand, and the byte the encoder gives it. -/

namespace Sys2Proof.Machine

/-! ## Operand codes -/

theorem operandOfCode_of_lt {n : Nat} (h : n < 8) : ∃ o, operandOfCode n = some o :=
  ⟨_, List.getElem?_eq_getElem h⟩

/-- R12: the place of an operand in `REG8` is its code. -/
theorem eq_operandCode_of_operandOfCode {n : Nat} {o : Operand} (h : operandOfCode n = some o) :
    n = operandCode o := by
  obtain ⟨hn, rfl⟩ := List.getElem?_eq_some_iff.mp h
  have hlt : n < 8 := hn
  interval_cases n <;> rfl

/-! ## The encodings of the register forms -/

/-- R96: a move's opcode has the destination's code and the source's code as its fields. -/
theorem encode_movInstr {dest source : Operand} {i : Instr} (h : movInstr dest source = some i) :
    encode i = [BitVec.ofNat 8 (0x40 + 8 * operandCode dest + operandCode source)] := by
  cases dest <;> cases source <;> simp only [movInstr, Option.some.injEq, reduceCtorEq] at h <;> subst h
  · next q r => cases q <;> cases r <;> rfl
  · next q => cases q <;> rfl
  · next r => cases r <;> rfl

/-- R57: a register form's opcode is its operand's place in the block of its family. -/
theorem encode_aluRegisterInstr (family : AluFamily) (o : Operand) :
    encode (aluRegisterInstr family o) = [BitVec.ofNat 8 (familyBase family + operandCode o)] := by
  cases o with
  | reg r => cases family <;> cases r <;> rfl
  | mem => cases family <;> rfl

/-! ## The blocks of the ALU families, under any `ORA_BASE` -/

/-- R57: the entry of a family in the decoder's list of blocks. -/
def aluBlock (c : Config) (family : AluFamily) : AluFamily × Byte :=
  (family, BitVec.ofNat 8 (blockBase c family))

theorem aluBlock_base_toNat (c : Config) (family : AluFamily) :
    (aluBlock c family).2.toNat = blockBase c family := by
  cases family with
  | ora => simp [aluBlock, blockBase]
  | _ => rfl

/-- R57: the decoder lists the blocks in the checking order. -/
theorem aluBlocks_eq (c : Config) : aluBlocks c = checkingOrder.map (aluBlock c) := by
  simp [aluBlocks, checkingOrder, aluBlock, blockBase, familyBase]

theorem decodeBlocks_cons_of_inAluBlock {c : Config} {family : AluFamily} {op : Byte}
    (h : inAluBlock c family op) (rest : List (AluFamily × Byte)) :
    decodeBlocks (aluBlock c family :: rest) op =
      (operandOfCode (op.toNat - blockBase c family)).map (aluRegisterInstr family) := by
  have hin : (aluBlock c family).2.toNat ≤ op.toNat ∧
      op.toNat - (aluBlock c family).2.toNat < 8 := by
    rw [aluBlock_base_toNat]; omega
  rw [decodeBlocks, if_pos hin, aluBlock_base_toNat]
  rfl

theorem decodeBlocks_cons_of_not_inAluBlock {c : Config} {family : AluFamily} {op : Byte}
    (h : ¬ inAluBlock c family op) (rest : List (AluFamily × Byte)) :
    decodeBlocks (aluBlock c family :: rest) op = decodeBlocks rest op := by
  have hout : ¬ ((aluBlock c family).2.toNat ≤ op.toNat ∧
      op.toNat - (aluBlock c family).2.toNat < 8) := by
    rw [aluBlock_base_toNat]; omega
  rw [decodeBlocks, if_neg hout]

/-- R57: blocks that do not hold the byte are passed over. -/
theorem decodeBlocks_append_of_not_inAluBlock {c : Config} {op : Byte} {families : List AluFamily}
    (h : ∀ g ∈ families, ¬ inAluBlock c g op) (rest : List (AluFamily × Byte)) :
    decodeBlocks (families.map (aluBlock c) ++ rest) op = decodeBlocks rest op := by
  induction families with
  | nil => rfl
  | cons g gs ih =>
    obtain ⟨hg, hgs⟩ := List.forall_mem_cons.mp h
    rw [List.map_cons, List.cons_append, decodeBlocks_cons_of_not_inAluBlock hg, ih hgs]

/-- R57: what a block answers is a register form of its family, by the place of the byte in the block. -/
theorem decodeBlocks_eq_some {c : Config} {op : Byte} {i : Instr} {families : List AluFamily}
    (h : decodeBlocks (families.map (aluBlock c)) op = some i) :
    ∃ g ∈ families, ∃ o, op.toNat = blockBase c g + operandCode o ∧ i = aluRegisterInstr g o := by
  induction families with
  | nil => cases h
  | cons g gs ih =>
    by_cases hg : inAluBlock c g op
    · rw [List.map_cons, decodeBlocks_cons_of_inAluBlock hg] at h
      obtain ⟨o, ho, rfl⟩ := Option.map_eq_some_iff.mp h
      have hcode := eq_operandCode_of_operandOfCode ho
      exact ⟨g, List.mem_cons_self, o, by omega, rfl⟩
    · rw [List.map_cons, decodeBlocks_cons_of_not_inAluBlock hg] at h
      obtain ⟨g', hmem, o, hop, rfl⟩ := ih h
      exact ⟨g', List.mem_cons_of_mem g hmem, o, hop, rfl⟩

/-- R57: no register form is decoded exactly where no block holds the byte. -/
theorem decodeBlocks_eq_none_iff {c : Config} {op : Byte} {families : List AluFamily} :
    decodeBlocks (families.map (aluBlock c)) op = none ↔ ∀ g ∈ families, ¬ inAluBlock c g op := by
  induction families with
  | nil => simp [decodeBlocks]
  | cons g gs ih =>
    rw [List.map_cons, List.forall_mem_cons]
    by_cases hg : inAluBlock c g op
    · obtain ⟨o, ho⟩ := operandOfCode_of_lt (n := op.toNat - blockBase c g) (by omega)
      simp [decodeBlocks_cons_of_inAluBlock hg, ho, hg]
    · simp [decodeBlocks_cons_of_not_inAluBlock hg, ih, hg]

theorem blockBase_config (family : AluFamily) : blockBase config family = familyBase family := by
  cases family <;> rfl

/-- Settles O6: the blocks are tried in the checking order, and those before the first hit are passed over. -/
theorem aluCheckingOrderDecidesOverlaps : Obligations.AluCheckingOrderDecidesOverlaps := by
  refine ⟨fun c earlier later family op horder hin hearlier => ?_, fun c op hnone => ?_,
    blockBase_config, fun op hlo hhi g => ?_⟩
  · rw [aluBlocks_eq, ← horder, List.map_append, List.map_cons,
      decodeBlocks_append_of_not_inAluBlock hearlier, decodeBlocks_cons_of_inAluBlock hin]
  · rw [aluBlocks_eq, decodeBlocks_eq_none_iff]
    exact fun g _ => hnone g
  · rw [inAluBlock, blockBase_config]
    cases g <;> simp only [familyBase] <;> omega

end Sys2Proof.Machine
end

section
/-! The decoder and the encoder are inverse (spec/30_encoding.md R50, R55, R56), and the opcodes the decoder
refuses (R58). -/

namespace Sys2Proof.Machine

/-! ## The length of an instruction -/

/-- R50: an instruction has one to three bytes. -/
theorem length_bounds (i : Instr) : 1 ≤ i.length ∧ i.length ≤ 3 := by
  unfold Instr.length
  cases i.asm <;> simp [Asm.byteLength]

/-- R50: the encoding has the length of the instruction. -/
theorem encode_length (i : Instr) : (encode i).length = i.length := by cases i <;> rfl

/-! ## What each step of the decoder answers -/

theorem mem_of_lookup {β : Type} {table : List (Byte × β)} {op : Byte} {b : β}
    (h : table.lookup op = some b) : (op, b) ∈ table := by
  obtain ⟨before, after, rfl, -⟩ := List.lookup_eq_some_iff.mp h
  simp

/-- R55: the four ways an opcode byte decodes. -/
theorem decodeOpcode_cases {c : Config} {op lo hi : Byte} {i : Instr}
    (h : decodeOpcode c op lo hi = some i) :
    (∃ make, singleTable.lookup op = some make ∧ make lo hi = i) ∨ decodeMove op = some i ∨
      decodeBlocks (aluBlocks c) op = some i ∨ decodeRestart op = some i := by
  unfold decodeOpcode at h
  split at h
  · next hs => exact .inl (Option.map_eq_some_iff.mp (hs.trans h))
  split at h
  · next hm => exact .inr (.inl (hm.trans h))
  split at h
  · next hb => exact .inr (.inr (.inl (hb.trans h)))
  · exact .inr (.inr (.inr h))

/-- R55: an opcode byte is refused when every step of the decoder passes it on. -/
theorem decodeOpcode_eq_none_iff {c : Config} {op lo hi : Byte} :
    decodeOpcode c op lo hi = none ↔ singleTable.lookup op = none ∧ decodeMove op = none ∧
      decodeBlocks (aluBlocks c) op = none ∧ decodeRestart op = none := by
  unfold decodeOpcode decodeSingle
  cases singleTable.lookup op <;> cases decodeMove op <;> cases decodeBlocks (aluBlocks c) op <;> simp

/-- R55: outside the single-opcode table the bytes after the opcode play no part. -/
theorem decodeOpcode_congr {c : Config} {op : Byte} (h : singleTable.lookup op = none)
    (lo hi lo' hi' : Byte) : decodeOpcode c op lo hi = decodeOpcode c op lo' hi' := by
  simp [decodeOpcode, decodeSingle, h]

/-! ## The encoding of what a step answers -/

/-- R52, R56: an entry of the single-opcode table takes as many of the bytes after its opcode as it is long. -/
theorem encode_singleTable {entry : Byte × (Byte → Byte → Instr)} (h : entry ∈ singleTable) (lo hi : Byte) :
    encode (entry.2 lo hi) = entry.1 :: [lo, hi].take ((entry.2 lo hi).length - 1) := by
  simp only [singleTable] at h
  fin_cases h <;> simp [encode, Instr.length, Instr.asm, Asm.byteLength]

/-- R50: the bytes after the opcode do not change the length of a table entry. -/
theorem length_singleTable {entry : Byte × (Byte → Byte → Instr)} (h : entry ∈ singleTable)
    (lo hi lo' hi' : Byte) : (entry.2 lo hi).length = (entry.2 lo' hi').length := by
  simp only [singleTable] at h
  fin_cases h <;> rfl

theorem encode_of_decodeMove {op : Byte} {i : Instr} (h : decodeMove op = some i) : encode i = [op] := by
  unfold decodeMove at h
  split at h
  · split at h
    · next dest source hdest hsource =>
      have hop : 0x40 + 8 * operandCode dest + operandCode source = op.toNat := by
        rw [← eq_operandCode_of_operandOfCode hdest, ← eq_operandCode_of_operandOfCode hsource]
        omega
      simp [encode_movInstr h, hop]
    · cases h
  · cases h

theorem encode_of_decodeBlocks {op : Byte} {i : Instr} (h : decodeBlocks (aluBlocks config) op = some i) :
    encode i = [op] := by
  rw [aluBlocks_eq] at h
  obtain ⟨g, -, o, hop, rfl⟩ := decodeBlocks_eq_some h
  rw [encode_aluRegisterInstr, ← blockBase_config, ← hop, BitVec.ofNat_toNat, BitVec.setWidth_eq]

theorem encode_restartTable {entry : Byte × Fin 8} (h : entry ∈ restartTable) :
    encode (rstInstr entry.2) = [entry.1] := by
  simp only [restartTable] at h
  fin_cases h <;> rfl

theorem encode_of_decodeRestart {op : Byte} {i : Instr} (h : decodeRestart op = some i) :
    encode i = [op] := by
  obtain ⟨n, hn, rfl⟩ := Option.map_eq_some_iff.mp h
  exact encode_restartTable (mem_of_lookup hn)

/-- R50, R56: the instruction of an opcode byte is encoded as that byte and its operand bytes. -/
theorem encode_of_decodeOpcode {op lo hi : Byte} {i : Instr} (h : decodeOpcode config op lo hi = some i) :
    encode i = op :: [lo, hi].take (i.length - 1) := by
  obtain ⟨make, hmake, rfl⟩ | h := decodeOpcode_cases h
  · exact encode_singleTable (mem_of_lookup hmake) lo hi
  · have hone : encode i = [op] := by
      obtain h | h | h := h
      · exact encode_of_decodeMove h
      · exact encode_of_decodeBlocks h
      · exact encode_of_decodeRestart h
    have hlen : i.length = 1 := by rw [← encode_length, hone]; rfl
    rw [hone, hlen]
    rfl

/-- R50, R55: the opcode of an encoding, with the bytes after it, decodes to the instruction. An operand word
comes back from its two bytes; for the other instructions the decoder's steps are evaluated at the opcode. -/
theorem decodeOpcode_encode (i : Instr) (rest : List Byte) :
    ∃ op tail, encode i = op :: tail ∧
      decodeOpcode config op ((tail ++ rest).getD 0 0) ((tail ++ rest).getD 1 0) = some i := by
  cases i with
  | lxiB d16 => exact ⟨_, _, rfl, congrArg (some <| Instr.lxiB ·) (joinBytes_hi_lo d16)⟩
  | lxiD d16 => exact ⟨_, _, rfl, congrArg (some <| Instr.lxiD ·) (joinBytes_hi_lo d16)⟩
  | lxiH d16 => exact ⟨_, _, rfl, congrArg (some <| Instr.lxiH ·) (joinBytes_hi_lo d16)⟩
  | lxiSP d16 => exact ⟨_, _, rfl, congrArg (some <| Instr.lxiSP ·) (joinBytes_hi_lo d16)⟩
  | jmp a16 => exact ⟨_, _, rfl, congrArg (some <| Instr.jmp ·) (joinBytes_hi_lo a16)⟩
  | _ => exact ⟨_, _, rfl, rfl⟩

/-! ## Lists of bytes -/

/-- R50, R71: a list decodes by its first byte, if it has the operand bytes, and the rest is left over. -/
theorem decodeWith_cons_eq_some_iff {c : Config} {op : Byte} {tail rest : List Byte} {i : Instr} :
    decodeWith c (op :: tail) = some (i, rest) ↔
      decodeOpcode c op (tail.getD 0 0) (tail.getD 1 0) = some i ∧ i.length ≤ tail.length + 1 ∧
        tail.drop (i.length - 1) = rest := by
  simp only [decodeWith]
  cases decodeOpcode c op (tail.getD 0 0) (tail.getD 1 0) with
  | none => simp
  | some j =>
    by_cases hj : j = i
    · subst hj; simp
    · simp [hj]

/-- The operand bytes the decoder reads are the first of the list, where the list has them. -/
theorem take_operandBytes {tail : List Byte} {n : Nat} (hn : n ≤ 2) (hlen : n ≤ tail.length) :
    [tail.getD 0 0, tail.getD 1 0].take n = tail.take n := by
  match tail, hlen with
  | [], hlen => obtain rfl := Nat.le_zero.mp hlen; rfl
  | [b], hlen => interval_cases n <;> simp_all
  | b :: b' :: more, _ => interval_cases n <;> rfl

/-- Settles O1: the opcode and the operand bytes give the instruction, and its length is that of the encoding. -/
theorem decodeOfEncodeIsIdentity : Obligations.DecodeOfEncodeIsIdentity := by
  intro i rest
  obtain ⟨op, tail, he, hop⟩ := decodeOpcode_encode i rest
  have hlen : tail.length + 1 = i.length := by rw [← encode_length, he, List.length_cons]
  rw [he, decode, List.cons_append, decodeWith_cons_eq_some_iff]
  refine ⟨hop, by rw [List.length_append]; omega, ?_⟩
  rw [← hlen, Nat.add_sub_cancel, List.drop_left]

/-- Settles O2: the first byte is the opcode, and the operand bytes are as many as the length leaves. -/
theorem decodedBytesAreTheEncoding : Obligations.DecodedBytesAreTheEncoding := by
  intro bytes i rest h
  cases bytes with
  | nil => cases h
  | cons op tail =>
    obtain ⟨hop, hlen, rfl⟩ := decodeWith_cons_eq_some_iff.mp h
    obtain ⟨-, hmax⟩ := length_bounds i
    rw [encode_of_decodeOpcode hop, take_operandBytes (by omega) (by omega), List.cons_append,
      List.take_append_drop]

/-! ## The opcodes that decode to nothing -/

/-- R57: the families but OR hold 0x80 to 0xAF between them. -/
theorem decodeBlocks_aluBlocks_eq_none_iff {c : Config} {op : Byte} :
    decodeBlocks (aluBlocks c) op = none ↔
      ¬ inAluBlock c .ora op ∧ ¬ (0x80 ≤ op.toNat ∧ op.toNat < 0xB0) := by
  rw [aluBlocks_eq, decodeBlocks_eq_none_iff]
  simp only [checkingOrder, List.forall_mem_cons, List.not_mem_nil, false_imp_iff, implies_true,
    and_true, inAluBlock, blockBase, familyBase]
  omega

/-- R58: outside the blocks of R57, a byte that no other step of the decoder takes is in the list. -/
theorem illegal_of_no_step : ∀ op : Byte, ¬ (0x80 ≤ op.toNat ∧ op.toNat < 0xB8) →
    decodeMove op = none → singleTable.lookup op = none → decodeRestart op = none →
    op ∈ illegalBytes := by
  decide

/-- R57: the bytes of the model's OR block are taken by no step but step 3. -/
theorem oraBlock_no_other_step : ∀ op : Byte, 0xB0 ≤ op.toNat ∧ op.toNat ≤ 0xB7 →
    singleTable.lookup op = none ∧ decodeMove op = none ∧ decodeRestart op = none := by
  decide

/-- R57, R58: what is refused under any `ORA_BASE`. -/
theorem decodeOpcode_eq_none_iff_illegal (c : Config) (op lo hi : Byte) :
    decodeOpcode c op lo hi = none ↔
      ¬ inAluBlock c .ora op ∧ (op ∈ illegalBytes ∨ (0xB0 ≤ op.toNat ∧ op.toNat ≤ 0xB7)) := by
  rw [decodeOpcode_eq_none_iff, decodeBlocks_aluBlocks_eq_none_iff]
  constructor
  · rintro ⟨hs, hm, ⟨hora, hother⟩, hr⟩
    refine ⟨hora, or_iff_not_imp_right.mpr fun hblock => ?_⟩
    exact illegal_of_no_step op (by omega) hm hs hr
  · rintro ⟨hora, hillegal | hblock⟩
    · obtain ⟨hs, hm, hb, hr⟩ := decodeOpcode_eq_none_iff.mp (decodeOpcode_illegal hillegal 0 0)
      exact ⟨hs, hm, ⟨hora, (decodeBlocks_aluBlocks_eq_none_iff.mp hb).2⟩, hr⟩
    · obtain ⟨hs, hm, hr⟩ := oraBlock_no_other_step op hblock
      exact ⟨hs, hm, ⟨hora, by omega⟩, hr⟩

/-- Settles O3: with the model's `ORA_BASE` the OR block is 0xB0 to 0xB7, so only the list remains. -/
theorem illegalBytesAreThoseListed : Obligations.IllegalBytesAreThoseListed := by
  refine ⟨fun op lo hi => ⟨fun h => ?_, fun h => decodeOpcode_illegal h lo hi⟩,
    decodeOpcode_eq_none_iff_illegal⟩
  obtain ⟨hora, hillegal | hblock⟩ := (decodeOpcode_eq_none_iff_illegal config op lo hi).mp h
  · exact hillegal
  · rw [inAluBlock, blockBase_config, familyBase] at hora
    omega

/-- Settles O4: a table entry has one length, and elsewhere the bytes after the opcode play no part. -/
theorem opcodeAloneDeterminesLength : Obligations.OpcodeAloneDeterminesLength := by
  intro op lo hi lo' hi'
  obtain ⟨hillegal, -⟩ := illegalBytesAreThoseListed
  refine ⟨(hillegal op lo hi).trans (hillegal op lo' hi').symm, fun i i' h h' => ⟨?_, ?_, ?_, ?_⟩⟩
  · cases hs : singleTable.lookup op with
    | none => rw [Option.some.inj (h.symm.trans ((decodeOpcode_congr hs ..).trans h'))]
    | some make =>
      simp only [decodeOpcode, decodeSingle, hs, Option.map_some, Option.some.injEq] at h h'
      rw [← h, ← h']
      exact length_singleTable (mem_of_lookup hs) lo hi lo' hi'
  · rw [encode_of_decodeOpcode h]; rfl
  · rw [encode_of_decodeOpcode h']; rfl
  · exact length_bounds i

/-- Settles O5: each word is the encoding of its instruction. -/
theorem sampleWordsDecode : Obligations.SampleWordsDecode :=
  have h (i : Instr) := decodeOfEncodeIsIdentity i []
  ⟨h .nop, h .hlt, h (.lxiH 0x1234), h (.mviC 0x22), h .movDM, h .movME, h .oraH, h .pushD,
    h (.jmp 0x2000), h .rst5, h (.xri 0xFF), h (.inPort 0x10), h .sim⟩

end Sys2Proof.Machine
end

section
/-! The assembler (spec/30_encoding.md R61): a well-formed statement is the spelling of an instruction. -/

namespace Sys2Proof.Machine

/-! ## The spelling of each family's instructions -/

theorem mviInstr_asm (dest : Operand) (d8 : Byte) : (mviInstr dest d8).asm = .mvi dest d8.toNat := by
  cases dest with
  | reg r => cases r <;> rfl
  | mem => rfl

theorem aluRegisterInstr_asm (family : AluFamily) (source : Operand) :
    (aluRegisterInstr family source).asm = .alu family source := by
  cases source with
  | reg r => cases family <;> cases r <;> rfl
  | mem => cases family <;> rfl

theorem aluImmediateInstr_asm (family : AluFamily) (d8 : Byte) :
    (aluImmediateInstr family d8).asm = .aluImmediate family d8.toNat := by cases family <;> rfl

/-- R96: every pair of operands but `M, M` names a move. -/
theorem exists_asm_mov {dest source : Operand} (h : (Asm.mov dest source).wellFormed = true) :
    ∃ i : Instr, i.asm = .mov dest source := by
  cases dest with
  | reg q =>
    cases source with
    | reg r => exact ⟨movRegisterInstr q r, by cases q <;> cases r <;> rfl⟩
    | mem => exact ⟨movFromMemoryInstr q, by cases q <;> rfl⟩
  | mem =>
    cases source with
    | reg r => exact ⟨movToMemoryInstr r, by cases r <;> rfl⟩
    | mem => cases h

/-- R52: a number that fits its field is the value of one. -/
theorem exists_toNat_eq {w n : Nat} (h : n < 2 ^ w) : ∃ b : BitVec w, b.toNat = n :=
  ⟨.ofNatLT n h, rfl⟩

/-- R61: a well-formed statement is the spelling of an instruction. -/
theorem exists_asm_of_wellFormed {stmt : Asm} (h : stmt.wellFormed = true) : ∃ i : Instr, i.asm = stmt := by
  cases stmt with
  | nop => exact ⟨.nop, rfl⟩
  | hlt => exact ⟨.hlt, rfl⟩
  | mvi dest n =>
    obtain ⟨d8, rfl⟩ := exists_toNat_eq (w := 8) (of_decide_eq_true h)
    exact ⟨_, mviInstr_asm dest d8⟩
  | lxi pair n =>
    obtain ⟨hpair, hn⟩ := Bool.and_eq_true_iff.mp h
    obtain ⟨d16, rfl⟩ := exists_toNat_eq (w := 16) (of_decide_eq_true hn)
    cases pair with
    | b => exact ⟨.lxiB d16, rfl⟩
    | d => exact ⟨.lxiD d16, rfl⟩
    | h => exact ⟨.lxiH d16, rfl⟩
    | sp => exact ⟨.lxiSP d16, rfl⟩
    | psw => cases hpair
  | mov dest source => exact exists_asm_mov h
  | push pair =>
    cases pair with
    | b => exact ⟨.pushB, rfl⟩
    | d => exact ⟨.pushD, rfl⟩
    | h => exact ⟨.pushH, rfl⟩
    | psw => exact ⟨.pushPSW, rfl⟩
    | sp => cases h
  | pop pair =>
    cases pair with
    | b => exact ⟨.popB, rfl⟩
    | d => exact ⟨.popD, rfl⟩
    | h => exact ⟨.popH, rfl⟩
    | psw => exact ⟨.popPSW, rfl⟩
    | sp => cases h
  | alu family source => exact ⟨_, aluRegisterInstr_asm family source⟩
  | aluImmediate family n =>
    obtain ⟨d8, rfl⟩ := exists_toNat_eq (w := 8) (of_decide_eq_true h)
    exact ⟨_, aluImmediateInstr_asm family d8⟩
  | jmp n =>
    obtain ⟨a16, rfl⟩ := exists_toNat_eq (w := 16) (of_decide_eq_true h)
    exact ⟨.jmp a16, rfl⟩
  | ret => exact ⟨.ret, rfl⟩
  | rst n => exact ⟨_, rstInstr_asm ⟨n, of_decide_eq_true h⟩⟩
  | inPort n =>
    obtain ⟨p8, rfl⟩ := exists_toNat_eq (w := 8) (of_decide_eq_true h)
    exact ⟨.inPort p8, rfl⟩
  | outPort n =>
    obtain ⟨p8, rfl⟩ := exists_toNat_eq (w := 8) (of_decide_eq_true h)
    exact ⟨.outPort p8, rfl⟩
  | ei => exact ⟨.ei, rfl⟩
  | di => exact ⟨.di, rfl⟩
  | sim => exact ⟨.sim, rfl⟩

/-- R61: the spelling of an instruction assembles to it. -/
theorem assemble_asm (i : Instr) : i.asm.assemble = some i := by
  rw [Asm.assemble, if_pos (instr_wellFormed i), asm_instr]

/-- Settles O7: assembling inverts spelling, and each well-formed statement is a spelling. -/
theorem assemblerSpellingsAreOneToOne : Obligations.AssemblerSpellingsAreOneToOne := by
  refine ⟨fun i => ⟨instr_wellFormed i, assemble_asm i⟩, fun stmt h => ?_, fun stmt h => ?_⟩
  · obtain ⟨i, rfl⟩ := exists_asm_of_wellFormed h
    exact ⟨i, assemble_asm i, rfl⟩
  · simp [Asm.assemble, h]

end Sys2Proof.Machine
end

section
/-! The sequencer (spec/40_fetch_decode_execute.md R71 to R77): the step of a running machine, as the effect of the
instruction at `PC` or the raise of `InvalidOpcode`, and the step of a stopped one. -/

namespace Sys2Proof.Machine

/-! ## When the sequencer takes a phase -/

/-- R75: a running machine without a fault takes a whole step. -/
theorem stepWith_of_running {c : Config} {s : State} (hrun : s.run = true) (hfault : s.fault = none)
    (hphase : s.phase = .exec) : stepWith c s = singleStep c s := by
  simp [stepWith, sequencerRuns, hrun, hfault, hphase]

theorem sequencerRuns_of_fault {s : State} (h : s.fault ≠ none) : sequencerRuns s = false := by
  cases hruns : sequencerRuns s with
  | false => rfl
  | true => exact absurd (fault_eq_none_of_sequencerRuns hruns) h

theorem sequencerRuns_of_stopped {s : State} (hrun : s.run = false) (hphase : s.phase = .exec) :
    sequencerRuns s = false := by
  cases hruns : sequencerRuns s with
  | false => rfl
  | true => cases hrun.symm.trans (run_of_sequencerRuns hruns hphase)

theorem stepWith_of_not_sequencerRuns {c : Config} {s : State} (h : sequencerRuns s = false) :
    stepWith c s = idle c s := by
  simp [stepWith, h]

theorem idle_of_nothing_scheduled {c : Config} {s : State} (h : s.schedule = []) :
    idle c s = .fault (stopReason s) := by
  simp [idle, h]

theorem idle_of_scheduled {c : Config} {s : State} {evs : List Event} {rest : List (List Event)}
    (h : s.schedule = evs :: rest) : idle c s = applyEvents c evs { s with schedule := rest } := by
  simp [idle, boundary, h]

/-- Settles O46: the sequencer does not run, and an idle machine has its scheduled events only. -/
theorem stoppedMachineTakesNoPhase : Obligations.StoppedMachineTakesNoPhase := by
  intro s
  refine ⟨fun r hr hq => ?_, fun ⟨hrun, hfault⟩ hphase hq => ?_, fun evs rest hq hstop => ?_⟩
  · have hruns : sequencerRuns s = false := sequencerRuns_of_fault (by simp [hr])
    rw [step_eq_stepWith, stepWith_of_not_sequencerRuns hruns, idle_of_nothing_scheduled hq, stopReason, hr]
  · have hruns : sequencerRuns s = false := sequencerRuns_of_stopped hrun hphase
    rw [step_eq_stepWith, stepWith_of_not_sequencerRuns hruns, idle_of_nothing_scheduled hq, stopReason, hfault]
  · have hruns : sequencerRuns s = false := by
      obtain hfault | ⟨hrun, hphase⟩ := hstop
      · exact sequencerRuns_of_fault hfault
      · exact sequencerRuns_of_stopped hrun hphase
    rw [step_eq_stepWith, stepWith_of_not_sequencerRuns hruns, idle_of_scheduled hq]

/-! ## The step of a running machine -/

/-- R71, R74: where the bytes at `PC` decode, the step is the rule of the instruction and the end of the step. -/
theorem stepWith_of_decodes {c : Config} {s : State} {i : Instr} {rest : List Byte} (hrun : s.run = true)
    (hfault : s.fault = none) (hphase : s.phase = .exec)
    (hd : decodeWith c (instrBytes s) = some (i, rest)) :
    stepWith c s =
      andThen (execWith c i (afterOpcodeFetch s)) fun u => finishStep c (endExec u) := by
  rw [stepWith_of_running hrun hfault hphase, singleStep]
  obtain ⟨hnone, -⟩ | ⟨j, rest', hsome, e⟩ := execPhase_cases c s
  · cases hnone.symm.trans hd
  · obtain ⟨rfl, -⟩ := Prod.mk.inj (Option.some.inj (hsome.symm.trans hd))
    rw [e, execWith_effect]
    rfl

/-- R74: with no fault latched and nothing scheduled, the `Service` phase is all that follows an `Exec` phase. -/
theorem finishStep_endExec_quiet {c : Config} {u : State} (hfault : u.fault = none)
    (hq : u.schedule = []) :
    finishStep c (endExec u) = .next (servicePhase c { u with phase := .service }) := by
  have hend : endExec u = { u with phase := .service } := by simp [endExec, hfault]
  rw [hend]
  exact finishStep_quiet hq rfl hfault ((service_schedule c _).trans hq)

/-- R71, R74: the step of a running machine under any configuration, and what it comes to with no fault and
nothing scheduled. -/
theorem stepWith_runs_decoded {c : Config} {s : State} {i : Instr} {rest : List Byte} (hrun : s.run = true)
    (hfault : s.fault = none) (hphase : s.phase = .exec)
    (hd : decodeWith c (instrBytes s) = some (i, rest)) :
    stepWith c s =
        andThen (execWith c i (afterOpcodeFetch s)) (fun u => finishStep c (endExec u)) ∧
      ∀ u, execWith c i (afterOpcodeFetch s) = .next u → u.fault = none → u.schedule = [] →
        stepWith c s = .next (servicePhase c { u with phase := .service }) := by
  have hstep := stepWith_of_decodes hrun hfault hphase hd
  refine ⟨hstep, fun u hu hf hq => ?_⟩
  rw [hstep, hu, andThen_next, finishStep_endExec_quiet hf hq]

/-- Settles O8: `decode`, `exec` and `step` are the case of this model's configuration. -/
theorem stepRunsTheDecodedInstruction : Obligations.StepRunsTheDecodedInstruction := by
  refine ⟨fun s i rest hrun hfault hphase hd => ?_,
    fun c s i rest hrun hfault hphase hd => stepWith_runs_decoded hrun hfault hphase hd,
    fun _ => rfl, exec_eq_execWith, step_eq_stepWith⟩
  simp only [exec_eq_execWith]
  exact stepWith_runs_decoded (c := config) hrun hfault hphase hd

/-! ## An illegal opcode -/

/-- R58, R71: nothing decodes from an illegal opcode byte, whatever follows it. -/
theorem decodeWith_illegal {op : Byte} (h : op ∈ illegalBytes) (tail : List Byte) :
    decodeWith config (op :: tail) = none := by
  simp only [decodeWith, decodeOpcode_illegal h]

/-- R74, R76: a latched fault ends a step with nothing scheduled. -/
theorem finishStep_of_fault {c : Config} {s : State} (hq : s.schedule = []) (hfault : s.fault ≠ none) :
    finishStep c s = .next s := by
  rw [finishStep, boundary_quiet c hq, andThen_next]
  split
  · next hnone => exact absurd hnone hfault
  · rfl

/-- R76, R171: the step at an illegal byte is the opcode fetch and the raise. -/
theorem step_of_illegal {s : State} (hrun : s.run = true) (hfault : s.fault = none)
    (hphase : s.phase = .exec) (hq : s.schedule = []) (hop : memByte s s.pc ∈ illegalBytes) :
    step s = .next (raise (.invalidOpcode (memByte s s.pc) s.pc) (afterOpcodeFetch s)) := by
  rw [step_eq_stepWith, stepWith_of_running hrun hfault hphase, singleStep]
  obtain ⟨-, e⟩ | ⟨i, rest, hsome, -⟩ := execPhase_cases config s
  · rw [e, andThen_next]
    exact finishStep_of_fault hq (Option.some_ne_none _)
  · cases (decodeWith_illegal hop _).symm.trans hsome

/-- Settles O45: the state of `step_of_illegal`, field by field. -/
theorem illegalOpcodeLatchesTheFault : Obligations.IllegalOpcodeLatchesTheFault := by
  intro s hrun hfault hphase hq hop
  refine ⟨_, step_of_illegal hrun hfault hphase hq hop, rfl, rfl, rfl, rfl, rfl, rfl, rfl, rfl, rfl,
    fun r _ => ?_, fun _ => rfl, ⟨rfl, rfl⟩, rfl⟩
  cases r <;> rfl

/-! ## `NOP` and `HLT` -/

/-- Settles O10: the rule of `NOP` answers the state it starts in. -/
theorem nopDoesNothing : Obligations.NopDoesNothing := ⟨rfl, exec_effect .nop⟩

/-- R79: everything but `RUN` is as it was after an `HLT`. -/
theorem frame_of_hlt (s : State) :
    let t := { s with run := false }
    t.run = false ∧ t.pc = s.pc ∧ t.sp = s.sp ∧ t.f = s.f ∧ KeepsRegsBut [] s t ∧ KeepsMemory s t ∧
      t.ie = s.ie ∧ t.mask = s.mask ∧ KeepsSequencer s t ∧ KeepsIo s t ∧ Transacts [] s t := by
  refine ⟨rfl, rfl, rfl, rfl, fun r _ => ?_, fun _ => rfl, rfl, rfl, ⟨rfl, rfl, rfl, rfl, rfl⟩,
    ⟨rfl, rfl⟩, rfl⟩
  cases r <;> rfl

/-- The state in which the `Service` phase of a halting step starts (R75). -/
def afterHlt (s : State) : State := { afterOpcodeFetch s with run := false, phase := .service }

/-- R75, R79: with nothing scheduled the step at an `HLT` is its effect and the `Service` phase. -/
theorem step_of_hlt {s : State} (hrun : s.run = true) (hfault : s.fault = none)
    (hphase : s.phase = .exec) (hq : s.schedule = []) (hop : memByte s s.pc = 0x76) :
    step s = .next (servicePhase config (afterHlt s)) := by
  have hd : decodeWith config (instrBytes s) =
      some (.hlt, [memByte s (s.pc + 1), memByte s (s.pc + 2)]) := by
    rw [instrBytes, hop]
    exact decodeOfEncodeIsIdentity .hlt _
  exact (stepWith_runs_decoded hrun hfault hphase hd).2 _ (execWith_effect config .hlt _) hfault hq

/-- R176: what the service of a pending interrupt leaves, with the old `PC` on the stack. The acknowledge
before the vector call keeps `PC` and `SP`. -/
theorem servicePhase_of_pending {s : State} {p : Pending} (hie : s.ie = true) (hp : s.pending = some p) :
    let t := servicePhase config s
    t.pc = 0x002C + BitVec.ofNat 16 p.line.val * 8 ∧ t.ie = false ∧ t.pending = none ∧
      t.sp = s.sp - 2 ∧ memByte t (s.sp - 1) = hiByte s.pc ∧ memByte t (s.sp - 2) = loByte s.pc := by
  obtain ⟨hnone, -⟩ | ⟨q, -, hq, e⟩ := service_cases config s
  · simp [hie, hp] at hnone
  obtain rfl : q = p := Option.some.inj (hq.symm.trans hp)
  have hpush := restart_pushes_pc (interruptVector config q.line) (emitIntAck q.token { s with ie := false })
  rw [emitIntAck_sp, emitIntAck_pc] at hpush
  rw [servicePhase, e]
  have hsp : s.sp - 1 - 1 = s.sp - 2 := by bv_omega
  exact ⟨rfl, by simp, rfl, by simpa using hsp, hpush⟩

/-- R176: without a pending interrupt enabled, the `Service` phase only gives way to the `Exec` phase. -/
theorem servicePhase_of_nothing_to_do {c : Config} {s : State} (h : s.ie = false ∨ s.pending = none) :
    servicePhase c s = { s with phase := .exec } := by
  obtain ⟨-, e⟩ | ⟨p, hie, hp, -⟩ := service_cases c s
  · rw [servicePhase, e]
  · simp [hie, hp] at h

/-- Settles O11: the `Service` phase runs in the state `HLT` leaves, and keeps `RUN` and `FAULT`. -/
theorem hltStopsAfterItsService : Obligations.HltStopsAfterItsService := by
  refine ⟨rfl, fun s => ⟨_, exec_effect .hlt s, frame_of_hlt s⟩, ?_⟩
  intro s hrun hfault hphase hq hop
  refine ⟨_, step_of_hlt hrun hfault hphase hq hop, ⟨?_, ?_⟩, fun p hie hp => ?_, fun hnone => ?_⟩
  · exact service_run config (afterHlt s)
  · exact (service_fault config (afterHlt s)).trans hfault
  · exact servicePhase_of_pending (s := afterHlt s) hie hp
  · rw [servicePhase_of_nothing_to_do (s := afterHlt s) hnone]
    exact ⟨rfl, rfl, rfl, rfl, fun _ => rfl⟩

end Sys2Proof.Machine
end

section
/-! The register-transfer instructions (spec/41_register_transfer.md): what one write of a register, of a pair, of
a byte of memory or of the stack does and leaves alone is said once; each rule is one of them after its fetches
and reads, which change only `PC`, `SP` and the history. -/

namespace Sys2Proof.Machine

/-! ## The frame of each write -/

theorem word_add_one_add_one (x : Word) : x + 1 + 1 = x + 2 := BitVec.add_assoc x 1 1

theorem word_sub_one_sub_one (x : Word) : x - 1 - 1 = x - 2 := by bv_omega

/-- R10: a register write changes that register and nothing else. -/
theorem frame_of_setReg (r : Reg) (v : Byte) (s : State) :
    let t := setReg r v s
    getReg r t = v ∧ t.pc = s.pc ∧ KeepsRegsBut [r] s t ∧ t.f = s.f ∧ t.sp = s.sp ∧ KeepsMemory s t ∧
      KeepsControl s t ∧ Transacts [] s t := by
  refine ⟨getReg_setReg_same r v s, setReg_pc r v s, fun q hq => ?_, setReg_f r v s, setReg_sp r v s,
    fun x => memByte_setReg x r v s, ?_, setReg_history r v s⟩
  · exact getReg_setReg_other (by simpa using hq) v s
  · simp [KeepsControl, KeepsSequencer, KeepsIo]

/-- R31: a bus write changes that byte of memory and nothing else. -/
theorem frame_of_memWrite (x : Word) (v : Byte) (s : State) :
    let t := memWrite x v s
    memByte t x = v ∧ t.pc = s.pc ∧ KeepsRegsBut [] s t ∧ t.f = s.f ∧ t.sp = s.sp ∧
      KeepsMemoryBut [x] s t ∧ KeepsControl s t ∧ Transacts [.memWrite x v] s t := by
  refine ⟨memByte_memWrite_same x v s, rfl, fun r _ => getReg_memWrite r x v s, rfl, rfl,
    fun y hy => ?_, ⟨rfl, rfl, rfl, ⟨rfl, rfl, rfl, rfl, rfl⟩, rfl, rfl⟩, rfl⟩
  exact memByte_memWrite_other (by simpa using hy) v s

/-- R11: a pair write changes its two halves and nothing else; only that of `PSW` changes `F`. -/
theorem frame_of_wrPair (p : Pair) (w : Word) (s : State) :
    let t := wrPair p w s
    pairHigh p t = hiByte w ∧ pairLow p t = loByte w ∧ t.pc = s.pc ∧ KeepsRegsBut (pairRegs p) s t ∧
      (p ≠ .af → t.f = s.f) ∧ t.sp = s.sp ∧ KeepsMemory s t ∧ KeepsControl s t ∧ Transacts [] s t := by
  refine ⟨by cases p <;> rfl, by cases p <;> rfl, wrPair_pc p w s, fun r hr => getReg_wrPair_other hr w s,
    fun hp => wrPair_f_of_ne hp w s, wrPair_sp p w s, fun x => memByte_wrPair x p w s, ?_,
    wrPair_history p w s⟩
  simp [KeepsControl, KeepsSequencer, KeepsIo]

/-- R97: a push changes `SP` and the two bytes below the old one, the high byte first. -/
theorem frame_of_push16 (w : Word) (s : State) :
    let t := push16 w s
    t.sp = s.sp - 2 ∧ memByte t (s.sp - 1) = hiByte w ∧ memByte t (s.sp - 2) = loByte w ∧
      t.pc = s.pc ∧ KeepsRegsBut [] s t ∧ t.f = s.f ∧ KeepsMemoryBut [s.sp - 1, s.sp - 2] s t ∧
      KeepsControl s t ∧
      Transacts [.memWrite (s.sp - 1) (hiByte w), .memWrite (s.sp - 2) (loByte w)] s t := by
  rw [← word_sub_one_sub_one]
  refine ⟨rfl, memByte_push16_high w s, memByte_push16_low w s, rfl, fun r _ => getReg_push16 r w s, rfl,
    fun x hx => ?_, ⟨rfl, rfl, rfl, ⟨rfl, rfl, rfl, rfl, rfl⟩, rfl, rfl⟩, rfl⟩
  obtain ⟨hhigh, hlow⟩ : x ≠ s.sp - 1 ∧ x ≠ s.sp - 1 - 1 := by simpa using hx
  exact memByte_push16_other w s hhigh hlow

/-! ## `MVI` and `LXI` -/

theorem encode_mviInstr (dest : Operand) (d8 : Byte) :
    encode (mviInstr dest d8) = [BitVec.ofNat 8 (0x06 + 8 * operandCode dest), d8] := by
  cases dest with
  | reg r => cases r <;> rfl
  | mem => rfl

/-- R90, R91: everything `MVI` does, as one state. -/
theorem exec_mviInstr (dest : Operand) (d8 : Byte) (s : State) :
    exec (mviInstr dest d8) s = .next (wrOp8 dest d8 (fetched s)) := by
  rw [exec_effect, mviInstr_asm, effect, BitVec.ofNat_toNat, BitVec.setWidth_eq]

/-- Settles O12: a register write after the operand fetch. -/
theorem mviLoadsRegister : Obligations.MviLoadsRegister := fun r d8 s =>
  ⟨encode_mviInstr (.reg r) d8, _, exec_mviInstr (.reg r) d8 s, frame_of_setReg r d8 (fetched s)⟩

/-- Settles O13: a bus write at `HL` after the operand fetch. -/
theorem mviStoresToMemory : Obligations.MviStoresToMemory := fun d8 s =>
  ⟨rfl, _, exec_mviInstr .mem d8 s, frame_of_memWrite (hlAddr s) d8 (fetched s)⟩

/-- R92: `LXI` into any pair but `PSW`. -/
theorem lxiPair_loads {p : Pair} (hp : p ≠ .af) (d16 : Word) (s : State) :
    ∃ t, lxiPair p d16 s = .next t ∧ pairHigh p t = hiByte d16 ∧ pairLow p t = loByte d16 ∧
      KeepsRegsBut (pairRegs p) s t ∧ t.sp = s.sp ∧ t.pc = s.pc + 2 ∧ t.f = s.f ∧ KeepsMemory s t ∧
      KeepsControl s t ∧ Transacts [fetchOf s s.pc, fetchOf s (s.pc + 1)] s t := by
  obtain ⟨hhigh, hlow, hpc, hregs, hf, hsp, hmem, hcontrol, hbus⟩ :=
    frame_of_wrPair p d16 (fetched (fetched s))
  exact ⟨_, operandWord_eq s _, hhigh, hlow, hregs, hsp, hpc.trans (word_add_one_add_one s.pc), hf hp, hmem,
    hcontrol, hbus⟩

/-- R92: `LXI SP`. -/
theorem lxiStackPointer_loads (d16 : Word) (s : State) :
    ∃ t, lxiStackPointer d16 s = .next t ∧ t.sp = d16 ∧ KeepsRegsBut [] s t ∧ t.pc = s.pc + 2 ∧
      t.f = s.f ∧ KeepsMemory s t ∧ KeepsControl s t ∧
      Transacts [fetchOf s s.pc, fetchOf s (s.pc + 1)] s t := by
  refine ⟨_, operandWord_eq s _, rfl, fun r _ => ?_, word_add_one_add_one s.pc, rfl, fun _ => rfl,
    ⟨rfl, rfl, rfl, ⟨rfl, rfl, rfl, rfl, rfl⟩, rfl, rfl⟩, rfl⟩
  cases r <;> rfl

/-- Settles O14: the three pairs and `SP`. -/
theorem lxiLoadsPairOrStackPointer : Obligations.LxiLoadsPairOrStackPointer := fun d16 s =>
  ⟨⟨rfl, rfl, rfl, rfl⟩, lxiPair_loads (p := .bc) (by decide) d16 s,
    lxiPair_loads (p := .de) (by decide) d16 s, lxiPair_loads (p := .hl) (by decide) d16 s,
    lxiStackPointer_loads d16 s⟩

/-! ## `MOV` -/

/-- R93 to R95: everything a move does, as one state: the operand is read, then written. -/
theorem exec_movInstr {dest source : Operand} {i : Instr} (h : movInstr dest source = some i) (s : State) :
    exec i s = .next (wrOp8 dest (rdOp8 source s).1 (rdOp8 source s).2) := by
  cases dest <;> cases source <;> simp only [movInstr, Option.some.injEq, reduceCtorEq] at h <;> subst h
  · next q r => cases q <;> cases r <;> rfl
  · next q => cases q <;> rfl
  · next r => cases r <;> rfl

/-- Settles O15: a register write alone. -/
theorem movCopiesRegister : Obligations.MovCopiesRegister := fun dest source s =>
  ⟨encode_movInstr (dest := .reg dest) (source := .reg source) rfl, _,
    exec_movInstr (dest := .reg dest) (source := .reg source) rfl s,
    frame_of_setReg dest (getReg source s) s⟩

/-- Settles O16: a register write after the bus read at the old `HL`. -/
theorem movLoadsFromMemory : Obligations.MovLoadsFromMemory := fun dest s =>
  ⟨by cases dest <;> rfl, _,
    exec_movInstr (dest := .reg dest) (source := .mem) rfl s,
    frame_of_setReg dest (memByte s (hlAddr s)) (memRead (hlAddr s) s).2⟩

/-- Settles O17: a bus write at `HL` alone. -/
theorem movStoresToMemory : Obligations.MovStoresToMemory := fun source s =>
  ⟨encode_movInstr (dest := .mem) (source := .reg source) rfl, _,
    exec_movInstr (dest := .mem) (source := .reg source) rfl s,
    frame_of_memWrite (hlAddr s) (getReg source s) s⟩

/-! ## `PUSH` and `POP` -/

@[simp] theorem hiByte_rdPair (p : Pair) (s : State) : hiByte (rdPair p s) = pairHigh p s := by
  cases p <;> exact hiByte_joinBytes _ _

@[simp] theorem loByte_rdPair (p : Pair) (s : State) : loByte (rdPair p s) = pairLow p s := by
  cases p <;> exact loByte_joinBytes _ _

/-- R99: everything `PUSH` does, as one state. -/
theorem exec_pushInstr (p : Pair) (s : State) :
    exec (pushInstr p) s = .next (push16 (rdPair p s) s) := by cases p <;> rfl

/-- R100: everything `POP` does, as one state. -/
theorem exec_popInstr (p : Pair) (s : State) :
    exec (popInstr p) s = .next (wrPair p (pop16 s).1 (pop16 s).2) := by cases p <;> rfl

/-- Settles O18: a push of the pair's word, whose bytes are the pair's halves. -/
theorem pushStoresPair : Obligations.PushStoresPair := by
  intro p s
  rw [← hiByte_rdPair, ← loByte_rdPair]
  exact ⟨by cases p <;> rfl, _, exec_pushInstr p s, frame_of_push16 (rdPair p s) s⟩

/-- Settles O19: a pair write after the two reads of the pop. -/
theorem popLoadsPair : Obligations.PopLoadsPair := by
  intro p s
  obtain ⟨hhigh, hlow, hpc, hregs, hf, hsp, hmem, hcontrol, hbus⟩ :=
    frame_of_wrPair p (pop16 s).1 (pop16 s).2
  exact ⟨by cases p <;> rfl, _, exec_popInstr p s, hsp.trans (word_add_one_add_one s.sp),
    hhigh.trans (hiByte_joinBytes _ _), hlow.trans (loByte_joinBytes _ _), hpc, hregs, hf, hmem, hcontrol,
    hbus⟩

/-- R101: a pop reads back the two bytes of the push before it. -/
theorem pop16_push16_value (w : Word) (s : State) : (pop16 (push16 w s)).1 = w := by
  have haddr : s.sp - 1#16 - 1#16 + 1 = s.sp - 1#16 := BitVec.sub_add_cancel _ _
  rw [pop16_eq, push16_sp, haddr, memByte_push16_high, memByte_push16_low, joinBytes_hi_lo]

/-- R101: a pop undoes the decrements of the push before it, across the wrap too. -/
theorem pop16_push16_sp (w : Word) (s : State) : (pop16 (push16 w s)).2.sp = s.sp := by
  rw [pop16_state_sp, push16_sp]
  bv_omega

/-- R11: writing a pair with the value it has changes nothing. -/
theorem wrPair_rdPair (p : Pair) (s : State) : wrPair p (rdPair p s) s = s := by
  cases p <;> simp [wrPair, pairHigh, pairLow]

/-- A push and a pop leave the registers of every pair. -/
@[simp] theorem rdPair_pop16_push16 (p : Pair) (w : Word) (s : State) :
    rdPair p (pop16 (push16 w s)).2 = rdPair p s := by
  cases p <;> simp [rdPair]

/-- The pair still holds in the popped state what was pushed, so its write there changes nothing. -/
theorem exec_push_then_pop (p : Pair) (s : State) :
    andThen (exec (pushInstr p) s) (exec (popInstr p)) = .next (pop16 (push16 (rdPair p s) s)).2 := by
  have hwrite := wrPair_rdPair p (pop16 (push16 (rdPair p s) s)).2
  rw [rdPair_pop16_push16] at hwrite
  rw [exec_pushInstr, andThen_next, exec_popInstr, pop16_push16_value, hwrite]

/-- Settles O20: push and pop change only `SP`, memory and the history, and `SP` is restored. -/
theorem pushThenPopIsIdentity : Obligations.PushThenPopIsIdentity := by
  refine ⟨fun w s => ⟨pop16_push16_value w s, pop16_push16_sp w s⟩, fun p s => ?_⟩
  refine ⟨_, exec_push_then_pop p s, ?_, ?_, pop16_push16_sp _ s, fun r _ => ?_, ?_⟩
  · rw [← hiByte_rdPair, rdPair_pop16_push16, hiByte_rdPair]
  · rw [← loByte_rdPair, rdPair_pop16_push16, loByte_rdPair]
  · rw [getReg_pop16, getReg_push16]
  · rw [pop16_state_f, push16_f]

end Sys2Proof.Machine
end

section
/-! Arithmetic and logic dispatch (spec/42_alu_dispatch.md): the Execution Unit's call and its frame are said once,
under any configuration; each ALU instruction is that call after its operand is read, which changes only `PC` and the
history. The reference unit of R112 is described by the integers and bits its results and flags stand for. -/

namespace Sys2Proof.Machine

/-! ## The Execution Unit's call -/

/-- R110: where the subtract family subtracts, every family selects its own operation. -/
theorem aluSelect_eq {c : Config} (hsub : c.subIsSubtract = true) (family : AluFamily) :
    aluSelect c family = (familyOp family, familyUsesCarry family) := by
  cases family <;> simp [aluSelect, familyOp, familyUsesCarry, hsub]

/-- R110: the unit's answer goes to `A` and `F`, and nothing else changes. -/
theorem frame_of_aluApply {c : Config} (hsub : c.subIsSubtract = true) (family : AluFamily) (x : Byte)
    (s : State) :
    let t := aluApply c family x s
    (t.a, t.f) = c.eu.alu (familyOp family) (familyUsesCarry family) s.a s.f x ∧ t.pc = s.pc ∧
      KeepsRegsBut [.a] s t ∧ t.sp = s.sp ∧ KeepsMemory s t ∧ KeepsControl s t ∧ Transacts [] s t := by
  refine ⟨?_, rfl, fun r hr => ?_, rfl, fun _ => rfl,
    ⟨rfl, rfl, rfl, ⟨rfl, rfl, rfl, rfl, rfl⟩, rfl, rfl⟩, rfl⟩
  · simp only [aluApply_eq, aluSelect_eq hsub]
  · exact getReg_aluApply_other (by simpa using hr) c family x s

/-- R111: under a unit that meets the contract, `A` gets the result that the operation names. -/
theorem frame_of_aluApply_contract {c : Config} (hunit : meetsContract c.eu)
    (hsub : c.subIsSubtract = true) (family : AluFamily) (x : Byte) (s : State) :
    let t := aluApply c family x s
    t.a = aluResult (familyOp family) (familyUsesCarry family && c.eu.carry s.f) s.a x ∧
      t.f = (c.eu.alu (familyOp family) (familyUsesCarry family) s.a s.f x).2 ∧ t.pc = s.pc ∧
      KeepsRegsBut [.a] s t ∧ t.sp = s.sp ∧ KeepsMemory s t ∧ KeepsControl s t ∧ Transacts [] s t := by
  obtain ⟨hanswer, hframe⟩ := frame_of_aluApply hsub family x s
  obtain ⟨ha, hf⟩ := Prod.ext_iff.mp hanswer
  exact ⟨ha.trans (hunit ..), hf, hframe⟩

/-! ## The instructions -/

theorem encode_aluImmediateInstr (family : AluFamily) (d8 : Byte) :
    encode (aluImmediateInstr family d8) = [familyImmediateOpcode family, d8] := by cases family <;> rfl

/-- R45: the state after an 8-bit operand is read. -/
def afterOperandRead (o : Operand) (s : State) : State :=
  { s with history := (operandReads o s).reverse ++ s.history }

/-- R110: everything a register or `M` form does, as one state. -/
theorem execWith_aluRegisterInstr (c : Config) (family : AluFamily) (o : Operand) (s : State) :
    execWith c (aluRegisterInstr family o) s =
      .next (aluApply c family (operandValue o s) (afterOperandRead o s)) := by
  rw [execWith_effect, aluRegisterInstr_asm, effect, rdOp8_eq]
  rfl

/-- R110: everything an immediate form does, as one state. -/
theorem execWith_aluImmediateInstr (c : Config) (family : AluFamily) (d8 : Byte) (s : State) :
    execWith c (aluImmediateInstr family d8) s = .next (aluApply c family d8 (fetched s)) := by
  rw [execWith_effect, aluImmediateInstr_asm, effect, BitVec.ofNat_toNat, BitVec.setWidth_eq]

theorem exec_aluRegisterInstr (family : AluFamily) (o : Operand) (s : State) :
    exec (aluRegisterInstr family o) s =
      .next (aluApply config family (operandValue o s) (afterOperandRead o s)) :=
  (exec_eq_execWith _ s).trans (execWith_aluRegisterInstr config family o s)

theorem exec_aluImmediateInstr (family : AluFamily) (d8 : Byte) (s : State) :
    exec (aluImmediateInstr family d8) s = .next (aluApply config family d8 (fetched s)) :=
  (exec_eq_execWith _ s).trans (execWith_aluImmediateInstr config family d8 s)

/-- Settles O22: the Execution Unit's call after the operand read, or after the operand fetch. -/
theorem aluDispatchesToTheExecutionUnit : Obligations.AluDispatchesToTheExecutionUnit := fun family s =>
  ⟨fun o => ⟨encode_aluRegisterInstr family o, _, exec_aluRegisterInstr family o s,
      frame_of_aluApply rfl family (operandValue o s) (afterOperandRead o s)⟩,
    fun d8 => ⟨encode_aluImmediateInstr family d8, _, exec_aluImmediateInstr family d8 s,
      frame_of_aluApply rfl family d8 (fetched s)⟩⟩

/-- Settles O27: the contract gives the result of the one call that every form makes. -/
theorem anyUnitGivesTheResult : Obligations.AnyUnitGivesTheResult := by
  intro c hunit hsub
  refine ⟨fun family x s => ⟨(frame_of_aluApply_contract hunit hsub family x s).1, rfl⟩,
    fun family s => ⟨fun o => ?_, fun d8 => ?_⟩⟩
  · exact ⟨_, execWith_aluRegisterInstr c family o s,
      frame_of_aluApply_contract hunit hsub family (operandValue o s) (afterOperandRead o s)⟩
  · exact ⟨_, execWith_aluImmediateInstr c family d8 s,
      frame_of_aluApply_contract hunit hsub family d8 (fetched s)⟩

/-! ## The results of the reference unit -/

theorem bit_le_one (b : Bool) : bit b ≤ 1 := by cases b <;> decide

/-- R112: the carry that goes into an operation of the reference unit, as a number. -/
theorem bit_carryIn (useCarry : Bool) (f : Byte) :
    bit (useCarry && refCarry f) = if useCarry then f.toNat % 2 else 0 := by
  cases useCarry with
  | false => rfl
  | true =>
    have hf : refCarry f = decide (f.toNat % 2 = 1) := Nat.testBit_zero f.toNat
    obtain h | h := Nat.mod_two_eq_zero_or_one f.toNat <;> simp [bit, hf, h]

/-- R111, R112: the reference unit adds modulo 256. -/
theorem referenceEU_add_toNat (useCarry : Bool) (a f x : Byte) :
    (referenceEU.alu .add useCarry a f x).1.toNat =
      (a.toNat + x.toNat + if useCarry then f.toNat % 2 else 0) % 256 := by
  rw [← bit_carryIn]
  exact BitVec.toNat_ofNat _ 8

/-- R111: a difference of the contract is that of the integers modulo 256. -/
theorem aluResult_sub_toNat (cin : Bool) (a x : Byte) :
    ((aluResult .sub cin a x).toNat : Int) = ((a.toNat : Int) - x.toNat - bit cin) % 256 := by
  have ha := a.isLt
  have hx := x.isLt
  have hcin : bit cin ≤ 1 := bit_le_one cin
  simp only [aluResult, BitVec.toNat_sub, BitVec.toNat_ofNat]
  omega

/-- R111, R112: the reference unit subtracts modulo 256. -/
theorem referenceEU_sub_toNat (useCarry : Bool) (a f x : Byte) :
    ((referenceEU.alu .sub useCarry a f x).1.toNat : Int) =
      ((a.toNat : Int) - x.toNat - (if useCarry then f.toNat % 2 else 0 : Nat)) % 256 := by
  rw [← bit_carryIn]
  exact aluResult_sub_toNat (useCarry && refCarry f) a x

/-- Settles O26: the result of the reference unit is by definition that of the contract. -/
theorem referenceUnitMeetsTheContract : Obligations.ReferenceUnitMeetsTheContract :=
  ⟨fun _ _ _ _ _ => rfl,
    fun useCarry a f x => ⟨referenceEU_add_toNat useCarry a f x, referenceEU_sub_toNat useCarry a f x⟩⟩

/-- Settles O23: the sum of the reference unit, without and with the carry. -/
theorem additionResults : Obligations.AdditionResults := fun s =>
  ⟨fun o =>
    ⟨⟨_, exec_aluRegisterInstr .add o s, referenceEU_add_toNat false s.a s.f (operandValue o s)⟩,
      ⟨_, exec_aluRegisterInstr .adc o s, referenceEU_add_toNat true s.a s.f (operandValue o s)⟩⟩,
    fun d8 =>
    ⟨⟨_, exec_aluImmediateInstr .add d8 s, referenceEU_add_toNat false s.a s.f d8⟩,
      ⟨_, exec_aluImmediateInstr .adc d8 s, referenceEU_add_toNat true s.a s.f d8⟩⟩⟩

/-- R115, R122: the difference of the reference unit without the borrow. -/
theorem referenceEU_sub_toNat_without_carry (a f x : Byte) :
    ((referenceEU.alu .sub false a f x).1.toNat : Int) = ((a.toNat : Int) - x.toNat) % 256 :=
  (referenceEU_sub_toNat false a f x).trans (congrArg (· % 256) (Int.sub_zero _))

/-- Settles O24: the difference of the reference unit, without and with the borrow. -/
theorem subtractionResults : Obligations.SubtractionResults := fun s =>
  ⟨fun o =>
    ⟨⟨_, exec_aluRegisterInstr .sub o s,
        referenceEU_sub_toNat_without_carry s.a s.f (operandValue o s)⟩,
      ⟨_, exec_aluRegisterInstr .sbb o s, referenceEU_sub_toNat true s.a s.f (operandValue o s)⟩⟩,
    fun d8 =>
    ⟨⟨_, exec_aluImmediateInstr .sub d8 s, referenceEU_sub_toNat_without_carry s.a s.f d8⟩,
      ⟨_, exec_aluImmediateInstr .sbb d8 s, referenceEU_sub_toNat true s.a s.f d8⟩⟩⟩

/-- Settles O25: the logic operations of the reference unit are those of bit vectors. -/
theorem logicResults : Obligations.LogicResults := fun s =>
  ⟨fun o =>
    ⟨⟨_, exec_aluRegisterInstr .ana o s, fun _ => BitVec.getLsbD_and⟩,
      ⟨_, exec_aluRegisterInstr .ora o s, fun _ => BitVec.getLsbD_or⟩,
      ⟨_, exec_aluRegisterInstr .xra o s, fun _ => BitVec.getLsbD_xor⟩⟩,
    fun d8 =>
    ⟨⟨_, exec_aluImmediateInstr .ana d8 s, fun _ => BitVec.getLsbD_and⟩,
      ⟨_, exec_aluImmediateInstr .ora d8 s, fun _ => BitVec.getLsbD_or⟩,
      ⟨_, exec_aluImmediateInstr .xra d8 s, fun _ => BitVec.getLsbD_xor⟩⟩⟩

/-! ## The flags of the reference unit -/

/-- R112: the place of each flag in `F`, and the three bits written as 0. -/
theorem packFlags_bits (sign zero ac parity cy : Bool) :
    let f := packFlags sign zero ac parity cy
    f.getLsbD 7 = sign ∧ f.getLsbD 6 = zero ∧ f.getLsbD 5 = false ∧ f.getLsbD 4 = ac ∧
      f.getLsbD 3 = false ∧ f.getLsbD 2 = parity ∧ f.getLsbD 1 = false ∧ f.getLsbD 0 = cy := by
  revert sign zero ac parity cy
  decide

/-- R112: every bit of `F` after an operation of the reference unit. -/
theorem referenceEU_flag_bits (op : AluOp) (useCarry : Bool) (a f x : Byte) :
    let r := (referenceEU.alu op useCarry a f x).1
    let f' := (referenceEU.alu op useCarry a f x).2
    f'.getLsbD 7 = r.getLsbD 7 ∧ f'.getLsbD 6 = decide (r = 0) ∧ f'.getLsbD 5 = false ∧
      f'.getLsbD 4 = refAC op (useCarry && refCarry f) a x ∧ f'.getLsbD 3 = false ∧
      f'.getLsbD 2 = evenParity r ∧ f'.getLsbD 1 = false ∧
      f'.getLsbD 0 = refCY op (useCarry && refCarry f) a x := packFlags_bits ..

theorem referenceEU_carry_bit (op : AluOp) (useCarry : Bool) (a f x : Byte) :
    (referenceEU.alu op useCarry a f x).2.getLsbD 0 = refCY op (useCarry && refCarry f) a x := by
  obtain ⟨-, -, -, -, -, -, -, hcy⟩ := referenceEU_flag_bits op useCarry a f x
  exact hcy

theorem referenceEU_auxiliary_carry_bit (op : AluOp) (useCarry : Bool) (a f x : Byte) :
    (referenceEU.alu op useCarry a f x).2.getLsbD 4 = refAC op (useCarry && refCarry f) a x := by
  obtain ⟨-, -, -, hac, -⟩ := referenceEU_flag_bits op useCarry a f x
  exact hac

/-- An even number of entries satisfies `p` exactly when the exclusive OR of its values is false. -/
theorem even_filter_length {α : Type} (p : α → Bool) (l : List α) :
    ((l.filter p).length % 2 == 0) = !l.foldr (fun i odd => p i ^^ odd) false := by
  induction l with
  | nil => rfl
  | cons i l ih =>
    rw [List.foldr_cons, ← Bool.xor_not, ← ih]
    cases hp : p i with
    | false => simp [hp]
    | true =>
      obtain h | h := Nat.mod_two_eq_zero_or_one (l.filter p).length <;>
        simp [hp, Nat.add_mod, h]

/-- R112: parity is the complement of the exclusive OR of the bits. -/
theorem evenParity_eq_not_xor (r : Byte) :
    evenParity r = !(r.getLsbD 0 ^^ r.getLsbD 1 ^^ r.getLsbD 2 ^^ r.getLsbD 3 ^^ r.getLsbD 4 ^^
      r.getLsbD 5 ^^ r.getLsbD 6 ^^ r.getLsbD 7) := by
  rw [evenParity, even_filter_length]
  simp [List.range_succ]

/-- R112: the carry flag of a sum. -/
theorem refCY_add (cin : Bool) (a x : Byte) :
    refCY .add cin a x = true ↔ 256 ≤ a.toNat + x.toNat + bit cin := decide_eq_true_iff

/-- R112: the auxiliary carry of a sum. -/
theorem refAC_add (cin : Bool) (a x : Byte) :
    refAC .add cin a x = true ↔ 16 ≤ a.toNat % 16 + x.toNat % 16 + bit cin := decide_eq_true_iff

/-- R112: the carry flag of a difference is the borrow. -/
theorem refCY_sub (cin : Bool) (a x : Byte) :
    refCY .sub cin a x = true ↔ a.toNat < x.toNat + bit cin := decide_eq_true_iff

/-- R112: the low half of `a + NOT x + (1 − cin)` carries out exactly when that of `a − x − cin` does not
borrow. -/
theorem refAC_sub (cin : Bool) (a x : Byte) :
    refAC .sub cin a x = true ↔ x.toNat % 16 + bit cin ≤ a.toNat % 16 := by
  have hx := x.isLt
  have hcin : bit cin ≤ 1 := bit_le_one cin
  rw [refAC, decide_eq_true_iff]
  omega

/-- Settles O28: the bits of `F`, its parity written as an exclusive OR. -/
theorem referenceFlagsFromTheResult : Obligations.ReferenceFlagsFromTheResult := by
  intro op useCarry a f x r f'
  obtain ⟨hsign, hzero, h5, -, h3, hparity, h1, -⟩ := referenceEU_flag_bits op useCarry a f x
  exact ⟨hsign, hzero ▸ decide_eq_true_iff, hparity.trans (evenParity_eq_not_xor r), h5, h3, h1⟩

/-- Settles O29: the two flags of each operation, with the carry that goes in as a number. -/
theorem referenceCarryFlags : Obligations.ReferenceCarryFlags := by
  intro useCarry a f x cin
  have hcin : bit (useCarry && refCarry f) = cin := bit_carryIn useCarry f
  have hcy (op : AluOp) := referenceEU_carry_bit op useCarry a f x
  have hac (op : AluOp) := referenceEU_auxiliary_carry_bit op useCarry a f x
  refine ⟨?_, ?_, ?_, ?_, hcy .and, hac .and, hcy .or, hac .or, hcy .xor, hac .xor⟩
  · rw [hcy, refCY_add, hcin]
  · rw [hac, refAC_add, hcin]
  · rw [hcy, refCY_sub, hcin]
  · rw [hac, refAC_sub, hcin]

end Sys2Proof.Machine
end

section
/-! Control flow (spec/43_control_flow.md): the vector call is a push of `PC` and a jump, so its frame is the push's;
each entry (`RST n`, the trap, the interrupt service) is that call, which the pop of a `RET` undoes. -/

namespace Sys2Proof.Machine

/-! ## The vector call -/

/-- R140: a vector call changes `PC`, `SP` and the two bytes below the old one, the high byte first. -/
theorem frame_of_restart (v : Word) (s : State) :
    let t := restart v s
    t.pc = v ∧ t.sp = s.sp - 2 ∧ memByte t (s.sp - 1) = hiByte s.pc ∧
      memByte t (s.sp - 2) = loByte s.pc ∧ t.f = s.f ∧ KeepsRegsBut [] s t ∧
      KeepsMemoryBut [s.sp - 1, s.sp - 2] s t ∧ KeepsControl s t ∧
      Transacts [.memWrite (s.sp - 1) (hiByte s.pc), .memWrite (s.sp - 2) (loByte s.pc)] s t := by
  obtain ⟨hsp, hhigh, hlow, -, -, hf, hmem, hcontrol, hbus⟩ := frame_of_push16 s.pc s
  exact ⟨rfl, hsp, hhigh, hlow, hf, fun r _ => getReg_restart r v s, hmem, hcontrol, hbus⟩

/-- Settles O30. -/
theorem restartPushesThenJumps : Obligations.RestartPushesThenJumps := by
  intro v s
  obtain ⟨hpc, hsp, hhigh, hlow, hf, hregs, hmem, hcontrol, hbus⟩ := frame_of_restart v s
  exact ⟨hpc, hsp, hhigh, hlow, hmem, hregs, hf, hcontrol, hbus⟩

/-! ## `JMP` and `RET` -/

/-- R141: everything `JMP` does, as one state. -/
theorem exec_jmp (a16 : Word) (s : State) :
    exec (.jmp a16) s = .next { fetched (fetched s) with pc := a16 } := operandWord_eq s _

/-- R142: everything `RET` does, as one state. -/
theorem exec_ret (s : State) : exec .ret s = .next (returnFromStack s) := exec_effect .ret s

@[simp] theorem getReg_returnFromStack (r : Reg) (s : State) :
    getReg r (returnFromStack s) = getReg r s := by cases r <;> rfl

/-- Settles O31: the two operand fetches, then one write of `PC`. -/
theorem jmpSetsProgramCounter : Obligations.JmpSetsProgramCounter := by
  intro a16 s
  refine ⟨rfl, _, exec_jmp a16 s, rfl, rfl, rfl, fun r _ => ?_, fun _ => rfl,
    ⟨rfl, rfl, rfl, ⟨rfl, rfl, rfl, rfl, rfl⟩, rfl, rfl⟩, rfl⟩
  cases r <;> rfl

/-- Settles O32: the two reads of the pop, then one write of `PC`. -/
theorem retPopsProgramCounter : Obligations.RetPopsProgramCounter :=
  ⟨rfl, fun s => ⟨_, exec_ret s, rfl, word_add_one_add_one s.sp, rfl,
    fun r _ => getReg_returnFromStack r s, fun _ => rfl,
    ⟨rfl, rfl, rfl, ⟨rfl, rfl, rfl, rfl, rfl⟩, rfl, rfl⟩, rfl⟩⟩

/-! ## `RST` -/

theorem encode_rstInstr (n : Fin 8) :
    encode (rstInstr n) = [BitVec.ofNat 8 (0xC7 + 8 * n.val)] := by fin_cases n <;> rfl

/-- R143: everything `RST n` does under any configuration, as one state. -/
theorem execWith_rstInstr (c : Config) (n : Fin 8) (s : State) :
    execWith c (rstInstr n) s = .next (restart (BitVec.ofNat 16 n.val * c.rstStride) s) := by
  rw [execWith_effect, rstInstr_asm, effect]

/-- R143: everything `RST n` does, as one state. -/
theorem exec_rstInstr (n : Fin 8) (s : State) :
    exec (rstInstr n) s = .next (restart (BitVec.ofNat 16 (8 * n.val)) s) := by
  rw [exec_effect, effect_rst]

/-- Settles O33: a vector call alone. -/
theorem rstCallsItsVector : Obligations.RstCallsItsVector :=
  ⟨fun n s => ⟨encode_rstInstr n, _, exec_rstInstr n s, frame_of_restart _ s⟩,
    fun c n s => ⟨_, execWith_rstInstr c n s, frame_of_restart _ s⟩⟩

/-! ## The return from every entry -/

/-- R144, R101: the return pops the `PC` that the vector call before it pushed. -/
theorem returnFromStack_restart (v : Word) (s : State) :
    (returnFromStack (restart v s)).pc = s.pc ∧ (returnFromStack (restart v s)).sp = s.sp :=
  ⟨pop16_push16_value s.pc s, pop16_push16_sp s.pc s⟩

/-- R176: the service of a pending interrupt that is enabled, as one state. -/
theorem service_of_pending {c : Config} {s : State} {p : Pending} (hie : s.ie = true)
    (hp : s.pending = some p) :
    service c s =
      { restart (interruptVector c p.line) (emitIntAck p.token { s with ie := false }) with
        pending := none } := by
  rw [service, hie, hp]

/-- R144, R181: the acknowledge before the vector call keeps `PC` and `SP`, and the return does not touch
`IE`. -/
theorem returnFromStack_service {c : Config} {s : State} {p : Pending} (hie : s.ie = true)
    (hp : s.pending = some p) :
    let t := returnFromStack (service c s)
    t.pc = s.pc ∧ t.sp = s.sp ∧ t.ie = false := by
  obtain ⟨hpc, hsp⟩ :=
    returnFromStack_restart (interruptVector c p.line) (emitIntAck p.token { s with ie := false })
  rw [service_of_pending hie hp]
  refine ⟨hpc.trans (emitIntAck_pc _ _), hsp.trans (emitIntAck_sp _ _), ?_⟩
  rw [returnFromStack_ie, restart_ie, emitIntAck_ie]

/-- Settles O34: each entry is a vector call, which the return undoes. -/
theorem returnUndoesEveryEntry : Obligations.ReturnUndoesEveryEntry := by
  refine ⟨fun n s => ?_, fun c s => ?_, fun c p s hie hp => ?_⟩
  · rw [exec_rstInstr, andThen_next]
    exact ⟨_, exec_ret _, returnFromStack_restart _ s⟩
  · exact ⟨_, exec_ret _, returnFromStack_restart c.trapVector s⟩
  · exact ⟨_, exec_ret _, returnFromStack_service hie hp⟩

end Sys2Proof.Machine
end

section
/-! The interrupt controls `EI` and `SIM` (spec/44_io_and_interrupt_control.md R157, R159), and the completion of
every instruction (spec/44_io_and_interrupt_control.md R160). -/

namespace Sys2Proof.Machine

/-! ## `EI` with a request pending -/

/-- R55: the byte at `PC` alone decides, when it is the whole encoding of an instruction. -/
theorem decodeWith_instrBytes_of_one_byte {s : State} {i : Instr} (h : encode i = [memByte s s.pc]) :
    decodeWith config (instrBytes s) = some (i, [memByte s (s.pc + 1), memByte s (s.pc + 2)]) := by
  have hd := decodeOfEncodeIsIdentity i [memByte s (s.pc + 1), memByte s (s.pc + 2)]
  rwa [h] at hd

/-- The state in which the `Service` phase of a step at an `EI` starts (R157). -/
def afterEi (s : State) : State := { afterOpcodeFetch s with ie := true, phase := .service }

/-- R74, R157: with nothing scheduled the step at an `EI` is its effect and the `Service` phase. -/
theorem step_of_ei {s : State} (hrun : s.run = true) (hfault : s.fault = none)
    (hphase : s.phase = .exec) (hq : s.schedule = []) (hop : memByte s s.pc = 0xFB) :
    step s = .next (servicePhase config (afterEi s)) := by
  have hd := decodeWith_instrBytes_of_one_byte (i := .ei) (congrArg (· :: []) hop.symm)
  exact (stepWith_runs_decoded hrun hfault hphase hd).2 _ (execWith_effect config .ei _) hfault hq

/-- Settles O39: the `Service` phase runs in the state `EI` leaves, where `IE` is already set. -/
theorem eiTakesAPendingRequestAtOnce : Obligations.EiTakesAPendingRequestAtOnce := by
  intro s p hrun hfault hphase hq hp hop
  obtain ⟨hpc, hie, hpending, hsp, hhigh, hlow⟩ :=
    servicePhase_of_pending (s := afterEi s) (p := p) rfl hp
  exact ⟨_, step_of_ei hrun hfault hphase hq hop, hpc, hie, hpending, hsp, hhigh, hlow,
    service_mask config (afterEi s)⟩

/-! ## `SIM` -/

/-- Everything but `MASK` is as it was when `MASK` is written. -/
theorem frame_of_mask_write (m : BitVec 3) (s : State) :
    let t := { s with mask := m }
    t.pc = s.pc ∧ t.sp = s.sp ∧ t.f = s.f ∧ KeepsRegsBut [] s t ∧ KeepsMemory s t ∧ t.ie = s.ie ∧
      t.run = s.run ∧ KeepsSequencer s t ∧ KeepsIo s t ∧ Transacts [] s t := by
  refine ⟨rfl, rfl, rfl, fun r _ => ?_, fun _ => rfl, rfl, rfl, ⟨rfl, rfl, rfl, rfl, rfl⟩,
    ⟨rfl, rfl⟩, rfl⟩
  cases r <;> rfl

/-- Settles O38: one write of `MASK`, with the low bits of `A` where bit 3 allows it, else with its own value. -/
theorem simSetsTheMask : Obligations.SimSetsTheMask := by
  refine ⟨rfl, fun s => ⟨_, exec_effect .sim s, fun h3 k => ?_,
    fun h3 => if_neg (Bool.eq_false_iff.mp h3), frame_of_mask_write _ s⟩⟩
  have hmask : (effect config .sim s).mask = s.a.extractLsb' 0 3 := if_pos h3
  simp [Instr.asm, hmask]

/-! ## Every instruction completes -/

/-- R173: an instruction answers the state of its effect, which keeps `FAULT`. -/
theorem execWith_completes (c : Config) (i : Instr) (s : State) :
    ∃ t, execWith c i s = .next t ∧ t.fault = s.fault := by
  obtain ⟨-, hfault, -⟩ := effect_keepsSequencer c i.asm s
  exact ⟨_, execWith_effect c i s, hfault⟩

/-- Settles O50: `exec` is the case of this model's configuration. -/
theorem everyInstructionCompletes : Obligations.EveryInstructionCompletes :=
  ⟨fun i s => exec_eq_execWith i s ▸ execWith_completes config i s, execWith_completes⟩

end Sys2Proof.Machine
end

section
/-! Exceptions (spec/60_exceptions.md): the requests of a boundary, the interrupt service and the trap as the vector
call they both are, the one nested in the other, and the faults a step can latch. -/

namespace Sys2Proof.Machine

/-! ## Requests -/

/-- R175: a request on a line of the interface is always applied. -/
theorem applyEvent_request (c : Config) (line : Fin 3) (token : Option Token) (s : State) :
    applyEvent c (.request line.val token) s = .next (request line token s) :=
  dif_pos (c.nlines_eq.symm ▸ line.isLt)

theorem request_of_masked {line : Fin 3} {s : State} (h : s.mask.getLsbD line = true)
    (token : Option Token) : request line token s = s := if_pos h

theorem request_of_unmasked {line : Fin 3} {s : State} (h : s.mask.getLsbD line = false)
    (token : Option Token) : request line token s = { s with pending := some ⟨line, token⟩ } :=
  if_neg (Bool.eq_false_iff.mp h)

/-- Settles O40: the lines of the interface by the mask, the others by the bound on the line. -/
theorem requestIsMaskedAtRequestTime : Obligations.RequestIsMaskedAtRequestTime := by
  intro c token s
  refine ⟨fun line h => ?_, fun line h => ?_, fun line h => ?_⟩
  · rw [applyEvent_request, request_of_masked h]
  · rw [applyEvent_request, request_of_unmasked h]
  · exact dif_neg (c.nlines_eq.symm ▸ Nat.not_lt.mpr h)

/-- Settles O41, by induction on the requests: the record may be any at the start, the mask stays. -/
theorem lastAcceptedRequestWins : Obligations.LastAcceptedRequestWins := by
  intro c requests
  induction requests with
  | nil => intro s; rfl
  | cons p rest ih =>
    intro s
    rw [List.map_cons, applyEvents, applyEvent_request, andThen_next]
    cases hm : s.mask.getLsbD p.line.val with
    | true => rw [request_of_masked hm, ih, List.filter_cons_of_neg (by simp [hm])]
    | false =>
      rw [request_of_unmasked hm, ih, List.filter_cons_of_pos (by simpa using hm), List.getLast?_cons]
      cases (rest.filter fun q => !s.mask.getLsbD q.line.val).getLast? <;> rfl

/-! ## The bus and the output events -/

theorem Transacts.append {new more : List Transaction} {s t u : State} (h : Transacts new s t)
    (h' : Transacts more t u) : Transacts (new ++ more) s u := by
  unfold Transacts at *
  rw [h', h, List.reverse_append, List.append_assoc]

/-- R177: the output-event trace grows by the output events among the transactions. -/
theorem outputTrace_of_transacts {new : List Transaction} {s t : State} (h : Transacts new s t) :
    outputTrace t = outputTrace s ++ new.filter Transaction.isOutput := by
  rw [outputTrace, h, List.filter_append, List.reverse_append, List.filter_reverse, List.reverse_reverse,
    outputTrace]

/-- R177: the acknowledge is an output event for the token, and none without one. -/
theorem transacts_emitIntAck (token : Option Token) (s : State) :
    Transacts (token.toList.map .intAck) s (emitIntAck token s) := by cases token <;> rfl

/-! ## The interrupt service and the trap -/

/-- R176: the service is a vector call from the state after the acknowledge, with `IE` and `PENDING` cleared. -/
theorem frame_of_service_pending {c : Config} {s : State} {p : Pending} (hie : s.ie = true)
    (hp : s.pending = some p) :
    let t := service c s
    t.ie = false ∧ t.pending = none ∧
      t.pc = c.intVectorBase + BitVec.ofNat 16 p.line.val * c.rstStride ∧ t.sp = s.sp - 2 ∧
      memByte t (s.sp - 1) = hiByte s.pc ∧ memByte t (s.sp - 2) = loByte s.pc ∧
      KeepsMemoryBut [s.sp - 1, s.sp - 2] s t ∧ KeepsRegsBut [] s t ∧ t.f = s.f ∧ t.mask = s.mask ∧
      t.run = s.run ∧ t.fault = s.fault ∧
      Transacts ((p.token.toList.map .intAck) ++
        [.memWrite (s.sp - 1) (hiByte s.pc), .memWrite (s.sp - 2) (loByte s.pc)]) s t := by
  obtain ⟨hpc, hsp, hhigh, hlow, hf, -, hmem, ⟨hie', hmask, hrun, ⟨-, hfault, -⟩, -⟩, hbus⟩ :=
    frame_of_restart (interruptVector c p.line) (emitIntAck p.token { s with ie := false })
  rw [emitIntAck_sp] at hsp hhigh hlow hmem hbus
  rw [emitIntAck_pc] at hhigh hlow hbus
  have hregs (r : Reg) : getReg r (service c s) = getReg r s := getReg_service r c s
  dsimp only
  rw [service_of_pending hie hp] at hregs ⊢
  exact ⟨hie'.trans (emitIntAck_ie ..), rfl, hpc, hsp, hhigh, hlow,
    fun x hx => (hmem x hx).trans (memByte_emitIntAck ..), fun r _ => hregs r,
    hf.trans (emitIntAck_f ..), hmask.trans (emitIntAck_mask ..), hrun.trans (emitIntAck_run ..),
    hfault.trans (emitIntAck_fault ..), (transacts_emitIntAck p.token { s with ie := false }).append hbus⟩

/-- Settles O42: the two cases of `Service()`. -/
theorem serviceTakesThePendingRequest : Obligations.ServiceTakesThePendingRequest := by
  intro c s
  refine ⟨fun p hie hp => frame_of_service_pending hie hp, fun h => ?_⟩
  obtain ⟨-, e⟩ | ⟨p, hie, hp, -⟩ := service_cases c s
  · exact e
  · simp [hie, hp] at h

/-- Settles O43: a vector call alone, whose two bus writes are no output events. -/
theorem trapCallsItsVector : Obligations.TrapCallsItsVector := by
  intro c s
  obtain ⟨hpc, hsp, hhigh, hlow, hf, hregs, hmem, hcontrol, hbus⟩ := frame_of_restart c.trapVector s
  exact ⟨_, rfl, hpc, hsp, hhigh, hlow, hmem, hregs, hf, hcontrol,
    (outputTrace_of_transacts hbus).trans (List.append_nil _)⟩

/-! ## A trap before the `Service` phase -/

/-- The state a trap leaves at a boundary, `later` being the events of the boundaries to come (R179). -/
def afterTrap (c : Config) (later : List (List Event)) (s : State) : State :=
  trap c { s with schedule := later }

theorem afterTrap_frame (c : Config) (later : List (List Event)) (s : State) :
    let t := afterTrap c later s
    t.pc = c.trapVector ∧ t.sp = s.sp - 2 ∧ memByte t (s.sp - 1) = hiByte s.pc ∧
      memByte t (s.sp - 2) = loByte s.pc := by
  obtain ⟨hpc, hsp, hhigh, hlow, -⟩ := frame_of_restart c.trapVector { s with schedule := later }
  exact ⟨hpc, hsp, hhigh, hlow⟩

theorem boundary_of_trap {c : Config} {s : State} {later : List (List Event)}
    (hq : s.schedule = [.trap] :: later) : boundary c s = .next (afterTrap c later s) := by
  simp only [boundary, hq]
  rfl

theorem boundary_of_no_events {c : Config} {s : State} {later : List (List Event)}
    (hq : s.schedule = [] :: later) : boundary c s = .next { s with schedule := later } := by
  simp only [boundary, hq, applyEvents]

/-- R74: with a trap alone at the boundary before the `Service` phase and no event at the one after it, the rest of
the step is the trap and the service. -/
theorem finishStep_of_trap {c : Config} {s : State} {later : List (List Event)}
    (hphase : s.phase = .service) (hfault : s.fault = none) (hq : s.schedule = [.trap] :: [] :: later) :
    finishStep c s =
      .next { servicePhase c (afterTrap c ([] :: later) s) with schedule := later } := by
  rw [finishStep, boundary_of_trap hq, andThen_next]
  have hphase' : (afterTrap c ([] :: later) s).phase = .service := hphase
  have hfault' : (afterTrap c ([] :: later) s).fault = none := hfault
  simp only [hphase', hfault']
  exact boundary_of_no_events (service_schedule c _)

/-- Settles O44: the frame of the service starts two bytes below that of the trap, so it leaves that one alone. -/
theorem trapBeforeServiceNests : Obligations.TrapBeforeServiceNests := by
  intro s p later hphase hfault hie hp hq
  obtain ⟨hpc, hsp, hhigh, hlow⟩ := afterTrap_frame config ([] :: later) s
  obtain ⟨-, -, hpc', hsp', hhigh', hlow', hmem, -⟩ := frame_of_service_pending (c := config)
    (s := afterTrap config ([] :: later) s) (p := p) hie hp
  rw [hsp] at hsp' hhigh' hlow' hmem
  rw [hpc] at hhigh' hlow'
  have h1 : s.sp - 2 - 1 = s.sp - 3 := by bv_omega
  have h2 : s.sp - 2 - 2 = s.sp - 4 := by bv_omega
  rw [h1] at hhigh' hmem
  rw [h2] at hsp' hlow' hmem
  have houter1 : s.sp - 1 ∉ [s.sp - 3, s.sp - 4] := by
    simp only [List.mem_cons, List.not_mem_nil, or_false]
    bv_omega
  have houter2 : s.sp - 2 ∉ [s.sp - 3, s.sp - 4] := by
    simp only [List.mem_cons, List.not_mem_nil, or_false]
    bv_omega
  exact ⟨_, finishStep_of_trap hphase hfault hq, hpc', hsp', (hmem _ houter1).trans hhigh,
    (hmem _ houter2).trans hlow, hhigh', hlow', rfl⟩

/-! ## No `InvalidByte` -/

/-- R170: `FAULT` is an `InvalidByte` record in `t` only where it was that record in `s`. -/
def LatchesNoInvalidByte (s t : State) : Prop :=
  ∀ value addr, t.fault = some (.invalidByte value addr) → s.fault = some (.invalidByte value addr)

theorem LatchesNoInvalidByte.of_fault_eq {s t : State} (h : t.fault = s.fault) :
    LatchesNoInvalidByte s t := fun _ _ ht => h.symm.trans ht

theorem LatchesNoInvalidByte.trans {s t u : State} (h : LatchesNoInvalidByte s t)
    (h' : LatchesNoInvalidByte t u) : LatchesNoInvalidByte s u := fun v x hu => h v x (h' v x hu)

/-- R175, R179, R200: requests and traps keep `FAULT`, a reset clears it. -/
theorem applyEvent_latchesNoInvalidByte {c : Config} {ev : Event} {s t : State}
    (h : applyEvent c ev s = .next t) : LatchesNoInvalidByte s t := by
  obtain ⟨line, token, -, rfl⟩ | ⟨-, rfl⟩ | ⟨-, rfl⟩ := applyEvent_cases h
  · exact .of_fault_eq (request_fault ..)
  · exact .of_fault_eq (trap_fault ..)
  · intro v x hreset
    cases hreset

theorem boundary_latchesNoInvalidByte {c : Config} {s t : State} (h : boundary c s = .next t) :
    LatchesNoInvalidByte s t :=
  boundary_keeps (P := LatchesNoInvalidByte s) (fun _ _ hu => hu)
    (fun _ _ _ hu hv => hu.trans (applyEvent_latchesNoInvalidByte hv)) (.of_fault_eq rfl) h

theorem servicePhase_latchesNoInvalidByte (c : Config) (s : State) :
    LatchesNoInvalidByte s (servicePhase c s) := .of_fault_eq (service_fault c s)

/-- R171, R173: an `Exec` phase latches `InvalidOpcode`, or nothing where an instruction decodes. -/
theorem execPhase_latchesNoInvalidByte {c : Config} {s t : State} (h : execPhase c s = .next t) :
    LatchesNoInvalidByte s t := by
  obtain ⟨-, rfl⟩ | ⟨i, -, -, rfl⟩ := execPhase_next_cases h
  · intro v x hraise
    cases hraise
  · obtain ⟨-, hfault, -⟩ := effect_keepsSequencer c i.asm (afterOpcodeFetch s)
    exact .of_fault_eq ((endExec_fault _).trans hfault)

theorem finishStep_latchesNoInvalidByte {c : Config} {s t : State} (h : finishStep c s = .next t) :
    LatchesNoInvalidByte s t := by
  obtain ⟨u, hu, ⟨-, rfl⟩ | ⟨-, -, ht⟩⟩ := finishStep_cases h
  · exact boundary_latchesNoInvalidByte hu
  · exact (boundary_latchesNoInvalidByte hu).trans
      ((servicePhase_latchesNoInvalidByte c u).trans (boundary_latchesNoInvalidByte ht))

/-- Settles O49: no phase and no boundary of a step latches an `InvalidByte`. -/
theorem invalidByteIsUnreachable : Obligations.InvalidByteIsUnreachable := by
  intro s t h
  change LatchesNoInvalidByte s t
  obtain ⟨-, -, hb⟩ | ⟨-, -, hb⟩ | ⟨-, -, u, hu, ht⟩ := stepWith_next_cases (c := config) h
  · exact boundary_latchesNoInvalidByte hb
  · exact (servicePhase_latchesNoInvalidByte config s).trans (boundary_latchesNoInvalidByte hb)
  · exact (execPhase_latchesNoInvalidByte hu).trans (finishStep_latchesNoInvalidByte ht)

end Sys2Proof.Machine
end

section
/-! The bare reset (spec/70_reset_and_hazards.md R201): a step of the seeded `HLT`, then the halted machine. -/

namespace Sys2Proof.Machine

/-- R201: the state the seeded `HLT` leaves when nothing was loaded after reset. -/
def afterBareReset : State := { afterHlt State.reset with phase := .exec }

/-- R201: the opcode fetch after reset reads the seed, and nothing is pending for the `Service` phase. -/
theorem step_reset : step State.reset = .next afterBareReset := by
  have hseed : memByte State.reset State.reset.pc = 0x76 := memByte_resetWith_seed config
  have hpending : (afterHlt State.reset).pending = none := rfl
  rw [step_of_hlt rfl rfl rfl rfl hseed, servicePhase_of_nothing_to_do (.inr hpending), afterBareReset]

theorem afterBareReset_isHalted : IsHalted afterBareReset := ⟨rfl, rfl⟩

/-- Settles O56: the one step is `step_reset`; a halted machine with nothing scheduled takes none. -/
theorem bareResetHaltsInOneStep : Obligations.BareResetHaltsInOneStep := by
  obtain ⟨-, hstuck, -⟩ := stoppedMachineTakesNoPhase afterBareReset
  exact ⟨afterBareReset, step_reset, rfl, afterBareReset_isHalted, hstuck afterBareReset_isHalted rfl rfl⟩

end Sys2Proof.Machine
end
